-- ==== Sys2Proof/Word.lean ====
section
/-! DEFINITION. The numbered things of the Zunara 340 and the byte its two links carry. -/

namespace Sys2Proof

/-- One byte on the control link (R186) or the feed port (R166). -/
abbrev Byte := BitVec 8

/-- Outputs O0 to O3. -/
abbrev OutputId := Fin 4

/-- Tuners T0 to T2. -/
abbrev TunerId := Fin 3

/-- Profiles P0 to P3. -/
abbrev ProfileId := Fin 4

/-- Service slots 0 to 3 of a carrier. -/
abbrev ServiceSlot := Fin 4

/-- Tiers 0 to 63. -/
abbrev TierId := Fin 64

/-- Purchase slots 0 to 31. -/
abbrev SlotId := Fin 32

end Sys2Proof
end

