-- ==== Sys2Proof/Syntax.lean ====
section
/-! DEFINITION. The commands: one constructor for each row of spec/opcode_table.json. -/

namespace Sys2Proof

/-- What the receiver of LRXD sees in one character time (R186): a byte, or a character whose stop
bit is low. A break gives one framing error for each character time it lasts. -/
inductive Character where
  | byte (b : Byte)
  | framingError
deriving DecidableEq, Repr

/-- The part's steps, each whole and indivisible (spec/95). A request row is the step in which the
request handler takes the oldest queued request and serves it (R190), and a packet row is the step in
which the packet's owner takes the packet the assembler hands on (R180): the fields of a request or of
a packet are the bytes that wait in the machine, so those commands carry no operand (log 1). -/
inductive Instr where
  | powerOn
  | powerLoss
  | resetLineAssert
  | resetLineRelease
  | loadEnd
  | secondExpiry
  | characterReceived (c : Character)
  | gapTimerExpiry
  | replySent
  | unknownRequest
  | ident
  | status
  | restart
  | mask
  | take
  | wake
  | standby
  | select
  | step
  | queryOutput
  | queryTuner
  | tunerSetup
  | queryMap
  | queryGuide
  | queryTitle
  | buy
  | queryPurchases
  | queryTiers
  | pinSet
  | pinClear
  | pinEnter
  | freeze
  | profileSet
  | queryProfile
  | bind
  | feedSetup
  | fstbActiveEdge (fd : Byte)
  | fstbRelease (fd : Byte)
  | handshakeTimeout
  | assemblerByteRead
  | assemblerGapMark
  | silenceTimerExpiry
  | time
  | map
  | guide
  | grant
  | revoke
  | credit
  | purack
  | unit
  | group
  | master
  | pinreset
  | lockIndication (t : TunerId)
  | unlockIndication (t : TunerId)
  | settleExpiry (t : TunerId)
  | gateCompletion (t : TunerId) (cycles : Nat)
  | retryExpiry (t : TunerId)
  | writeCompletion
deriving DecidableEq, Repr

end Sys2Proof
end

