-- ==== Sys2Proof/Decode.lean ====
section
/-! DEFINITION. The command that a word spells. No row of spec/opcode_table.json has bits, so no word
spells one (log 16). -/

namespace Sys2Proof

/-- No row gives bits: none (log 16). -/
def decodeTableWord (_nbits _w : Nat) : Option Instr := none

end Sys2Proof
end

