-- ==== Sys2Proof/Config.lean ====
section
/-! DEFINITION. The figures the spec fixes for the part, and the two free values it leaves: how a check
value is computed, and how far a reply has been sent when the RESET line cuts it off. -/

namespace Sys2Proof.Config

/-- IDENT's vendor code (R193). -/
abbrev vendorCode : Nat := 0x53
/-- IDENT's part code (R193). -/
abbrev partCode : Nat := 340
/-- The unit address of a blank IDENTITY record (R205). -/
abbrev blankUnitAddress : Nat := 4294967295
/-- The start byte of both frame kinds (section 10.1). -/
abbrev frameStart : Byte := 0x7E
/-- The most body bytes a frame carries (section 10.1). -/
abbrev maxBody : Nat := 250
/-- The request queue holds 4 requests (R189). -/
abbrev queueSize : Nat := 4
/-- The transmit list holds 8 replies (R191). -/
abbrev transmitSize : Nat := 8
/-- The wrap of the local seconds count (R61). -/
abbrev localWrap : Nat := 4294967280
/-- Seconds of a day (R60). -/
abbrev daySeconds : Nat := 86400
/-- The number of days counted before the day wraps to 0 (R61). -/
abbrev dayWrap : Nat := 65536
/-- Minutes of a day (R60). -/
abbrev dayMinutes : Nat := 1440
/-- The greatest guide minute (R60, R69). -/
abbrev maxGuideMinute : Nat := 94371839
/-- The IF setting of a blank TUNER SETUP record (R205). -/
abbrev defaultIf : Nat := 45750
/-- Carriers accepted by R5. -/
abbrev minCarrier : Nat := 48000
/-- Carriers accepted by R5. -/
abbrev maxCarrier : Nat := 1002000
/-- The greatest count of the 20-bit IF counter (R22). -/
abbrev maxIfCount : Nat := 1048575
/-- The acceptance window of the IF count, in counts (R26). -/
abbrev ifWindow : Int := 600
/-- The guide's record limit (R70). -/
abbrev guideRecords : Nat := 1536
/-- The title pool's size in bytes (R70). -/
abbrev titlePool : Nat := 32768
/-- The purchase log's record limit (R98). -/
abbrev logSize : Nat := 32
/-- The last sequence number, which is never given to a record (R103). -/
abbrev lastSequence : Nat := 4294967295
/-- The log size whose reaching latches LOG_NEAR_FULL (R104). -/
abbrev logNearFull : Nat := 28
/-- Wrong attempts that start a lockout (R126). -/
abbrev maxAttempts : Nat := 5
/-- Minutes of a lockout (R126). -/
abbrev lockoutMinutes : Nat := 15
/-- Minutes of a CHANNEL pass (R136). -/
abbrev passMinutes : Nat := 240
/-- The feed buffer's size in bytes (R172). -/
abbrev feedBuffer : Nat := 512
/-- The sync byte of a packet (section 9.3). -/
abbrev sync : Byte := 0x9C
/-- The most body bytes of a packet (R174). -/
abbrev maxPacketBody : Nat := 232
/-- The group address that turns group matching off (R179). -/
abbrev noGroup : Nat := 65535

/-- The check value the store computes over a record's content (R204), which gives neither its width nor its
rule: a free value (log 23). -/
opaque checkValue {α : Type} (content : α) : Nat

/-- How many of its levels a reply has put on LTXD when the RESET line cuts it off (R196), at the `n`-th of
the output pins' doings: a free value (log 24). -/
opaque levelsSent (n : Nat) : Nat

end Sys2Proof.Config
end

