-- ==== Sys2Proof/Machine/State.lean ====
section
/-! DEFINITION. All the state the spec gives the part, block by block, and the state right after the
release of power-on. Plain data throughout. -/

namespace Sys2Proof.Machine

/-- Where the part stands between its resets: without supply, held by the RESET line (R196), in the
load period (R206), or serving. -/
inductive Phase where
  | off | held | loading | running
deriving DecidableEq, Repr

/-! ### Channel map (chapter 1) -/

/-- How a channel is sold; the tier is present exactly with TIER (R1). -/
inductive AccessClass where
  | free | tier (t : TierId) | pay
deriving DecidableEq, Repr

/-- One entry of the committed map (R1). -/
structure MapEntry where
  channel : Nat
  carrier : Nat
  slot : ServiceSlot
  scrambled : Bool
  access : AccessClass
  label : List Byte
deriving DecidableEq, Repr

/-- The content of the MAP record, which is also the committed map (R2, R16): entries in ascending
channel order, and the version, none only while the map was loaded blank. -/
structure Lineup where
  entries : List MapEntry
  version : Option Nat
deriving DecidableEq, Repr

/-- A staged entry and the segment it arrived in (section 1.3). -/
structure StagedEntry where
  entry : MapEntry
  segment : Nat
deriving DecidableEq, Repr

/-- A collection in progress (section 1.3): `received` holds no duplicates, and `entries` is kept in
ascending channel order with at most one entry a channel. -/
structure Staging where
  version : Nat
  count : Nat
  received : List Nat
  entries : List StagedEntry
deriving DecidableEq, Repr

/-- CM: the committed map and the staging map. -/
structure ChannelMap where
  committed : Lineup
  staging : Option Staging
deriving DecidableEq, Repr

/-! ### Tuner pool (chapter 2) -/

/-- A tuner's place in its acquisition (R17, R18). -/
inductive TunerState where
  | idle | settling | measuring | locked | failed
deriving DecidableEq, Repr

/-- Why a tuner is FAILED (R17). -/
inductive FailReason where
  | noLock | noCarrier | offFrequency
deriving DecidableEq, Repr

/-- What a gate reports (R22). -/
inductive IfCount where
  | count (c : Nat) | overflow
deriving DecidableEq, Repr

/-- A tuner record (R17). The attached outputs are read off the outputs' attachments (log 8), and the
settle timer, the IF gate and the retry timer run exactly in SETTLING, MEASURING and FAILED. -/
structure Tuner where
  state : TunerState
  carrier : Option Nat
  n0 : Option Nat
  offset : Int
  corrections : Nat
  lastCount : Option IfCount
  reason : Option FailReason
deriving DecidableEq, Repr

/-- A tuner that serves no output (R31, R42). -/
def Tuner.idle : Tuner :=
  { state := .idle, carrier := none, n0 := none, offset := 0, corrections := 0, lastCount := none,
    reason := none }

/-- TP: the three tuner records and the IF setting in kHz (R40). -/
structure TunerPool where
  tuners : Vector Tuner 3
  ifKHz : Nat
deriving DecidableEq, Repr

/-! ### Outputs (chapter 3) -/

/-- Whether the box is awake (R43). -/
inductive Mode where
  | standby | active
deriving DecidableEq, Repr

/-- What serves an output (R43). A tuner comes with the route's service slot, since the route is
present exactly while the attachment is a tuner and names that tuner. -/
inductive Attachment where
  | tuner (t : TunerId) (slot : ServiceSlot) | waiting | none
deriving DecidableEq, Repr

/-- A route: a tuner and a service slot (R43). -/
structure Route where
  tuner : TunerId
  slot : ServiceSlot
deriving DecidableEq, Repr

/-- An output record (R43). -/
structure Output where
  mode : Mode
  channel : Option Nat
  attachment : Attachment
deriving DecidableEq, Repr

/-- An output after a reset (R59). -/
def Output.initial : Output := { mode := .standby, channel := none, attachment := .none }

/-! ### Time base (chapter 4) -/

/-- The wall-clock time, as the headend numbers days (R60). -/
structure WallClock where
  day : Nat
  second : Nat
deriving DecidableEq, Repr

/-- TB: the local seconds count, and the wall clock while the known flag is set (R60). -/
structure TimeBase where
  localSeconds : Nat
  clock : Option WallClock
deriving DecidableEq, Repr

/-! ### Programme guide (chapter 5) -/

/-- The content flags VIOLENCE, LANGUAGE, MATURE and FRIGHT at bits 0 to 3 (R69, section 9.3). -/
abbrev ContentFlags := BitVec 4

/-- A stored programme (R69). -/
structure GuideEvent where
  service : Nat
  eventId : Nat
  start : Nat
  duration : Nat
  rating : Nat
  flags : ContentFlags
  price : Nat
  preview : Nat
  title : List Byte
deriving DecidableEq, Repr

/-- PG: the event table, in ascending order of service and then of start (R70). -/
structure Guide where
  events : List GuideEvent
deriving DecidableEq, Repr

/-! ### Entitlements and purchases (chapter 6) -/

/-- One tier record (R90). -/
structure TierRecord where
  held : Bool
  expiry : Nat
deriving DecidableEq, Repr

/-- The unit state (R96). -/
inductive UnitState where
  | active | disconnected
deriving DecidableEq, Repr

/-- The content of the ENTITLEMENTS record (R204): the tier table, the credit limit, the unit state. -/
structure Entitlements where
  tiers : Vector TierRecord 64
  limit : Nat
  unitState : UnitState
deriving DecidableEq, Repr

/-- No tier held, limit 0, ACTIVE (R205). -/
def Entitlements.initial : Entitlements :=
  { tiers := Vector.replicate 64 { held := false, expiry := 0 }, limit := 0, unitState := .active }

/-- Where a purchase stands (R97). -/
inductive PurchaseState where
  | pending | opened | reported
deriving DecidableEq, Repr

/-- A purchase record (R97). -/
structure Purchase where
  seq : Nat
  service : Nat
  eventId : Nat
  start : Nat
  finish : Nat
  price : Nat
  minute : Nat
  state : PurchaseState
  slot : SlotId
deriving DecidableEq, Repr

/-- The content of the SEQUENCE record (R98, R204). -/
structure Sequence where
  next : Nat
  acked : Nat
deriving DecidableEq, Repr

/-- Next sequence number 1, acknowledged-through number 0 (R205). -/
def Sequence.initial : Sequence := { next := 1, acked := 0 }

/-- EP: what the records hold, the log in ascending sequence order, and the last completed number. -/
structure Purchasing where
  ent : Entitlements
  log : List Purchase
  seq : Sequence
  lastCompleted : Option Nat
deriving DecidableEq, Repr

/-! ### Parental control (chapter 7) -/

/-- A viewing window, from `opens` up to but not including `closes` (R119, R122). -/
structure Window where
  opens : Nat
  closes : Nat
deriving DecidableEq, Repr

/-- A parental profile (R119). -/
structure Profile where
  ceiling : Nat
  blockUnrated : Bool
  blocked : ContentFlags
  purchasePin : Bool
  window : Option Window
  locked : List Nat
deriving DecidableEq, Repr

/-- The defaults of R119. -/
def Profile.initial : Profile :=
  { ceiling := 6, blockUnrated := false, blocked := 0, purchasePin := false, window := none, locked := [] }

/-- Where the master PIN is accepted (R124, R125). -/
inductive OverrideLevel where
  | high | maximum
deriving DecidableEq, Repr

/-- The PIN record as the store keeps it (R124): every field but the frozen flag. -/
structure PinRecord where
  pin : Option (List Nat)
  master : Option (List Nat)
  level : OverrideLevel
  attempts : Nat
  lockout : Nat
deriving DecidableEq, Repr

/-- No PIN, no master PIN, HIGH, 0, 0 (R205). -/
def PinRecord.initial : PinRecord :=
  { pin := none, master := none, level := .high, attempts := 0, lockout := 0 }

/-- A pass (R137). -/
inductive Pass where
  | event (service eventId : Nat)
  | channel (service minutesLeft : Nat)
deriving DecidableEq, Repr

/-- Every output bound to P0 (R120). -/
def initialBindings : Vector ProfileId 4 := Vector.replicate 4 0

/-- PC: profiles, bindings, the PIN record, the frozen flag and one pass an output. -/
structure Parental where
  profiles : Vector Profile 4
  bindings : Vector ProfileId 4
  record : PinRecord
  frozen : Bool
  passes : Vector (Option Pass) 4
deriving DecidableEq, Repr

/-- The PIN state, derived from the record (R124). -/
inductive PinState where
  | unset | armed | lockedOut
deriving DecidableEq, Repr

/-! ### Access decision (chapter 8) -/

/-- The reasons of BLOCKED_PARENTAL, in the order of R121. -/
inductive ParentalReason where
  | channelLock | window | unrated | rating | content
deriving DecidableEq, Repr

/-- The reasons of BLOCKED_PAY (R146). -/
inductive PayReason where
  | noEvent | pending | notBought
deriving DecidableEq, Repr

/-- A decision with the reason, tier or preview minutes that R146 gives it. -/
inductive Decision where
  | off | blank | noTuner | disconnected | acquiring | noSignal
  | blockedParental (r : ParentalReason)
  | blockedTier (t : TierId)
  | blockedPay (r : PayReason)
  | preview (left : Nat)
  | clear
deriving DecidableEq, Repr

/-- An output's decision record (R146). -/
structure DecisionRecord where
  decision : Decision
  eventId : Option Nat
  pass : Option Pass
  channel : Option Nat
  route : Option Route
  picture : Bool
  descramble : Bool
deriving DecidableEq, Repr

/-- The record after a reset (R165). -/
def DecisionRecord.initial : DecisionRecord :=
  { decision := .off, eventId := none, pass := none, channel := none, route := none, picture := false,
    descramble := false }

/-! ### Headend feed (chapter 9) -/

/-- The feed port's mode (R166). -/
inductive PortMode where
  | strobe | leading | trailing
deriving DecidableEq, Repr

/-- A line's active level (R166). -/
inductive Polarity where
  | activeHigh | activeLow
deriving DecidableEq, Repr

/-- The content of the FEED SETUP record (R204). -/
structure FeedSetup where
  mode : PortMode
  fstb : Polarity
  fack : Polarity
  group : Nat
deriving DecidableEq, Repr

/-- LEADING, ACTIVE_LOW, ACTIVE_LOW, group matching off (R205). -/
def FeedSetup.initial : FeedSetup :=
  { mode := .leading, fstb := .activeLow, fack := .activeLow, group := Config.noGroup }

/-- What stands in the feed buffer: a byte, or a gap mark (R172). -/
inductive FeedItem where
  | byte (b : Byte) | gap
deriving DecidableEq, Repr

/-- The packet assembler (section 9.4). `n` is how many of the candidate's bytes have been read, the
sync included; `handing` is CHECK with an admitted packet waiting for its owner (R175). -/
inductive Assembler where
  | hunt | header (n : Nat) | body (n : Nat) | check (n : Nat) | handing
deriving DecidableEq, Repr

/-- The kinds of port fault (R183). -/
inductive FeedFault where
  | overrun | timeout | outOfTurn
deriving DecidableEq, Repr

/-- HF. `fstbHigh` is the level on the FSTB pin. `fackHeld` says that a FEED SETUP has driven FACK
inactive and that the FSTB edge waiting behind it meets it so (R171, R182; log 6). -/
structure HeadendFeed where
  setup : FeedSetup
  buffer : List FeedItem
  assembler : Assembler
  handshake : Bool
  silence : Bool
  lastFault : Option FeedFault
  fstbHigh : Bool
  fackHeld : Bool
deriving DecidableEq, Repr

/-! ### Control link (chapter 10) -/

/-- The frame parser with the part of the frame it holds (R187). -/
inductive Parser where
  | idle
  | length
  | kind (len : Nat)
  | tag (len : Nat) (kind : Byte)
  | body (len : Nat) (kind tag : Byte) (got : List Byte)
deriving DecidableEq, Repr

/-- A queued request (R189). -/
structure Request where
  kind : Byte
  tag : Byte
  body : List Byte
deriving DecidableEq, Repr

/-- The status codes of chapter 10. -/
inductive Status where
  | ok | accepted | busy | unknown | badLength | badField | standby | noChannel | noTuner | noTime
  | noEvent | notPay | already | noCredit | logFull | parental | disconnected | wrongPin | lockedOut
  | frozen | notBlocked | noPin
deriving DecidableEq, Repr

/-- A reply in the transmit list (R191). -/
structure Reply where
  kind : Byte
  tag : Byte
  status : Status
  body : List Byte
deriving DecidableEq, Repr

/-- The cause of the last reset (R202). -/
inductive ResetCause where
  | powerOn | resetLine | restart
deriving DecidableEq, Repr

/-- CL. Latch `i` of R197 is bit `i` of `latches`, and the kind of code `k` is bit `k` of `mask`;
`stopped` says that RESTART has been served (R195). The gap timer runs exactly outside IDLE (R187). -/
structure ControlLink where
  parser : Parser
  queue : List Request
  transmit : List Reply
  stopped : Bool
  latches : BitVec 17
  mask : BitVec 12
  cause : ResetCause
deriving DecidableEq, Repr

/-! ### Settings store (chapter 11) -/

/-- The IDENTITY record (R204). -/
structure Identity where
  unitAddress : Nat
  revision : Nat
deriving DecidableEq, Repr

/-- The identity of a writable record (R204, R207). -/
inductive RecordId where
  | slot (k : SlotId)
  | sequence
  | pin
  | entitlements
  | profile (p : ProfileId)
  | bindings
  | map
  | feedSetup
  | tunerSetup
deriving DecidableEq, Repr

/-- The content one write carries (R208); a slot write carries SEQUENCE with it (R209). -/
inductive Content where
  | slot (k : SlotId) (p : Option Purchase) (q : Sequence)
  | sequence (q : Sequence)
  | pin (r : PinRecord)
  | entitlements (e : Entitlements)
  | profile (p : ProfileId) (v : Profile)
  | bindings (b : Vector ProfileId 4)
  | map (m : Lineup)
  | feedSetup (f : FeedSetup)
  | tunerSetup (ifKHz : Nat)
deriving DecidableEq, Repr

/-- What a write leaves in a record: the content, and the check value stored together with it (R204). -/
structure Stored (α : Type) where
  content : α
  check : Nat
deriving DecidableEq, Repr

/-- The records as their last completed writes left them (R204). `none` is a record that was never written,
or a slot last written blank (R106); a record whose check value does not match its content is blank too,
which the load finds out (`readRecord`). -/
structure Records where
  identity : Option (Stored Identity)
  slots : Vector (Option (Stored Purchase)) 32
  sequence : Option (Stored Sequence)
  pin : Option (Stored PinRecord)
  entitlements : Option (Stored Entitlements)
  profiles : Vector (Option (Stored Profile)) 4
  bindings : Option (Stored (Vector ProfileId 4))
  map : Option (Stored Lineup)
  feedSetup : Option (Stored FeedSetup)
  tunerSetup : Option (Stored Nat)
deriving DecidableEq, Repr

/-- SS: the records, the dirty set in class order without duplicates (R207), and the write engine,
IDLE when `engine` is `none` and WRITING the content it holds otherwise (R208). -/
structure SettingsStore where
  records : Records
  dirty : List RecordId
  engine : Option Content
deriving DecidableEq, Repr

/-! ### Pins -/

/-- One thing the part does on its output pins: a gate moves (R156), a route word (R56) or a divisor
word (R21) is transferred and takes effect, a reply frame has been sent (R191), or a reply frame is cut off
after some of its levels (R196). -/
inductive PinEvent where
  | picture (o : OutputId) (on : Bool)
  | descramble (o : OutputId) (on : Bool)
  | route (o : OutputId) (word : BitVec 4)
  | divisor (t : TunerId) (word : BitVec 15)
  | reply (frame : List Byte)
  | replyCut (frame : List Byte) (levels : Nat)
deriving DecidableEq, Repr

/-- The gate pins, and what the output pins have done since power-on, oldest first. -/
structure Pins where
  picture : Vector Bool 4
  descramble : Vector Bool 4
  wave : List PinEvent
deriving DecidableEq, Repr

/-! ### The whole part -/

/-- The part, block by block, and the commands that wait for it. -/
structure State where
  phase : Phase
  cl : ControlLink
  hf : HeadendFeed
  tb : TimeBase
  cm : ChannelMap
  tp : TunerPool
  ou : Vector Output 4
  pg : Guide
  ep : Purchasing
  pc : Parental
  ae : Vector DecisionRecord 4
  ss : SettingsStore
  pins : Pins
  pending : List Instr
deriving DecidableEq, Repr

/-- No step of the part stops with a fault: the spec gives it none (INVENTORY.md, Faults). -/
inductive Fault where
deriving DecidableEq, Repr

/-- Why a command has no meaning. -/
inductive Refusal where
  /-- Raised only by an arm of `exec` for a row that has no meaning yet; safe, since the machine stops. -/
  | notModelled (mnemonic : String)
deriving DecidableEq, Repr

/-- The part at the release of power-on (R196): every block in its power-on state, the load begun
(R206). The store's records are blank (log 3), FSTB is high (log 4), and what a block takes from the
store at the load end stands at the defaults of R205 until then (log 5). -/
def State.reset : State :=
  { phase := .loading
    cl := { parser := .idle, queue := [], transmit := [], stopped := false, latches := 0,
            mask := BitVec.allOnes 12, cause := .powerOn }
    hf := { setup := .initial, buffer := [], assembler := .hunt, handshake := false, silence := false,
            lastFault := none, fstbHigh := true, fackHeld := false }
    tb := { localSeconds := 0, clock := none }
    cm := { committed := { entries := [], version := none }, staging := none }
    tp := { tuners := Vector.replicate 3 .idle, ifKHz := Config.defaultIf }
    ou := Vector.replicate 4 .initial
    pg := { events := [] }
    ep := { ent := .initial, log := [], seq := .initial, lastCompleted := none }
    pc := { profiles := Vector.replicate 4 .initial, bindings := initialBindings, record := .initial,
            frozen := false, passes := Vector.replicate 4 none }
    ae := Vector.replicate 4 .initial
    ss := { records := { identity := none, slots := Vector.replicate 32 none, sequence := none,
                         pin := none, entitlements := none, profiles := Vector.replicate 4 none,
                         bindings := none, map := none, feedSetup := none, tunerSetup := none }
            dirty := []
            engine := none }
    pins := { picture := Vector.replicate 4 false, descramble := Vector.replicate 4 false,
              wave := [.route 0 0b1100, .route 1 0b1100, .route 2 0b1100, .route 3 0b1100] }
    pending := [] }

end Sys2Proof.Machine
end

