-- ==== Sys2Proof/Machine/Flags.lean ====
section
/-! DEFINITION. The notice latches, the kind mask and the ATTN line (section 10.5), and the LTXD line. -/

namespace Sys2Proof.Machine

/-- A notice latch: a kind with its subject (R197). -/
inductive Notice where
  | ready
  | pinLockout
  | outputState (o : OutputId)
  | tunerFault (t : TunerId)
  | purchaseDone
  | logNearFull
  | entitlement
  | mapCommitted
  | timeSet
  | guideFull
  | feedFault
  | feedSilent
deriving DecidableEq, Repr

/-- The latch index, which is the priority of TAKE (R197). -/
def Notice.index : Notice → Nat
  | .ready => 0
  | .pinLockout => 1
  | .outputState o => 2 + o.val
  | .tunerFault t => 6 + t.val
  | .purchaseDone => 9
  | .logNearFull => 10
  | .entitlement => 11
  | .mapCommitted => 12
  | .timeSet => 13
  | .guideFull => 14
  | .feedFault => 15
  | .feedSilent => 16

/-- The kind code (R197). -/
def Notice.kind : Notice → Nat
  | .ready => 0x00
  | .pinLockout => 0x01
  | .outputState _ => 0x02
  | .tunerFault _ => 0x03
  | .purchaseDone => 0x04
  | .logNearFull => 0x05
  | .entitlement => 0x06
  | .mapCommitted => 0x07
  | .timeSet => 0x08
  | .guideFull => 0x09
  | .feedFault => 0x0A
  | .feedSilent => 0x0B

/-- The subject field of TAKE (R197). -/
def Notice.subject : Notice → Nat
  | .outputState o => o.val
  | .tunerFault t => t.val
  | _ => 0

/-- The 17 latches in the order of their index (R197). -/
def allNotices : List Notice :=
  [.ready, .pinLockout, .outputState 0, .outputState 1, .outputState 2, .outputState 3, .tunerFault 0,
   .tunerFault 1, .tunerFault 2, .purchaseDone, .logNearFull, .entitlement, .mapCommitted, .timeSet,
   .guideFull, .feedFault, .feedSilent]

/-- Whether a latch is set. -/
def ControlLink.isSet (c : ControlLink) (n : Notice) : Bool := c.latches.getLsbD n.index

/-- Whether a latch's kind is unmasked (R198). -/
def ControlLink.unmasked (c : ControlLink) (n : Notice) : Bool := c.mask.getLsbD n.kind

/-- Sets a latch; one already set stays set (R197). -/
def ControlLink.setLatch (c : ControlLink) (n : Notice) : ControlLink :=
  { c with latches := c.latches ||| BitVec.twoPow 17 n.index }

/-- Clears a latch, as TAKE does (R200). -/
def ControlLink.clearLatch (c : ControlLink) (n : Notice) : ControlLink :=
  { c with latches := c.latches &&& ~~~ BitVec.twoPow 17 n.index }

/-- The set latch of lowest index among those whose kind is unmasked (R200). -/
def ControlLink.firstNotice (c : ControlLink) : Option Notice :=
  allNotices.find? fun n => c.isSet n && c.unmasked n

/-- Some unmasked latch is set: the condition of ATTN and of the more-pending flag (R199, R200). -/
def ControlLink.pendingNotice (c : ControlLink) : Bool :=
  allNotices.any fun n => c.isSet n && c.unmasked n

/-- Latches a notice in CL (R197). -/
def State.latch (n : Notice) (s : State) : State := { s with cl := s.cl.setLatch n }

/-- ATTN is asserted exactly while an unmasked latch is set, and inactive while the part is held in reset (R199,
R196). Inactive without supply too is the model's choice (log 14). -/
def State.attn (s : State) : Bool :=
  match s.phase with
  | .off | .held => false
  | .loading | .running => s.cl.pendingNotice

/-- The reply on LTXD: the oldest in the list, while the part is neither held (R191, R196) nor without
supply (log 14). -/
def State.transmitting (s : State) : Option Reply :=
  match s.phase with
  | .off | .held => none
  | .loading | .running => s.cl.transmit.head?

/-- LTXD rests at the high level while no reply is being transmitted (R186, R196); without supply it is read
so (log 14). While one is, the line follows the reply's characters (`PinEvent.levels`). -/
def State.ltxdRests (s : State) : Bool := s.transmitting.isNone

end Sys2Proof.Machine
end

