-- ==== Sys2Proof/Machine/Ops.lean ====
section
/-! DEFINITION. The shared operations over the state: time, lookups in the map and the guide, tiers and
credit, the PIN state, the output pins, and the store's dirty set and write engine. -/

namespace Sys2Proof.Machine

/-- O0 to O3 in ascending number. -/
def allOutputs : List OutputId := [0, 1, 2, 3]

/-- T0 to T2 in ascending number. -/
def allTuners : List TunerId := [0, 1, 2]

/-! ### Outputs and tuners -/

/-- An output's record becomes `x`. -/
def State.setOutput (o : OutputId) (x : Output) (s : State) : State := { s with ou := s.ou.set o x }

/-- An output's attachment becomes `a`. -/
def State.attach (o : OutputId) (a : Attachment) (s : State) : State :=
  s.setOutput o { s.ou[o] with attachment := a }

/-- A tuner's record becomes `x`. -/
def State.setTuner (t : TunerId) (x : Tuner) (s : State) : State :=
  { s with tp := { s.tp with tuners := s.tp.tuners.set t x } }

/-- The tuner an attachment names. -/
def Attachment.tuner? : Attachment → Option TunerId
  | .tuner t _ => some t
  | _ => Option.none

/-- The route an attachment gives (R43). -/
def Attachment.route? : Attachment → Option Route
  | .tuner t sl => some ⟨t, sl⟩
  | _ => Option.none

/-- An output's route (R43). -/
def State.route (s : State) (o : OutputId) : Option Route := s.ou[o].attachment.route?

/-- A tuner's attached set, in ascending number (R17). -/
def State.attachedTo (s : State) (t : TunerId) : List OutputId :=
  allOutputs.filter fun o => s.ou[o].attachment.tuner? == some t

/-- The waiting list, in ascending number (R36). -/
def State.waitingList (s : State) : List OutputId :=
  allOutputs.filter fun o => s.ou[o].attachment == .waiting

/-- An output is ACTIVE. -/
def State.isActive (s : State) (o : OutputId) : Bool := s.ou[o].mode == .active

/-- The ACTIVE outputs, in ascending number. -/
def State.activeOutputs (s : State) : List OutputId := allOutputs.filter s.isActive

/-- Some output is ACTIVE; the four are always in the same mode (R44). -/
def State.awake (s : State) : Bool := allOutputs.any s.isActive

/-- The ACTIVE outputs whose remembered channel is the service (R85, R104). -/
def State.outputsOn (s : State) (service : Nat) : List OutputId :=
  s.activeOutputs.filter fun o => s.ou[o].channel == some service

/-! ### Time (R60) -/

/-- The minute of day of a wall clock. -/
def WallClock.minuteOfDay (c : WallClock) : Nat := c.second / 60

/-- The guide minute of a wall clock. -/
def WallClock.now (c : WallClock) : Nat := c.day * Config.dayMinutes + c.minuteOfDay

/-- The present guide minute, absent while the known flag is clear. -/
def State.now (s : State) : Option Nat := s.tb.clock.map WallClock.now

/-- The minute of day, absent while the known flag is clear. -/
def State.minuteOfDay (s : State) : Option Nat := s.tb.clock.map WallClock.minuteOfDay

/-! ### The committed map (R3) -/

/-- Resolve: the entry with that channel number. -/
def Lineup.resolve (m : Lineup) (ch : Nat) : Option MapEntry := m.entries.find? (·.channel == ch)

/-- The entry of lowest channel number. -/
def Lineup.first (m : Lineup) : Option MapEntry := m.entries.head?

/-- The entry of highest channel number. -/
def Lineup.last (m : Lineup) : Option MapEntry := m.entries.getLast?

/-- The entry of lowest channel number above `ch`, or the first entry when none lies above. -/
def Lineup.nextAbove (m : Lineup) (ch : Nat) : Option MapEntry :=
  match m.entries.find? (fun e => ch < e.channel) with
  | some e => some e
  | none => m.first

/-- The entry of highest channel number below `ch`, or the last entry when none lies below. -/
def Lineup.nextBelow (m : Lineup) (ch : Nat) : Option MapEntry :=
  match m.entries.reverse.find? (fun e => e.channel < ch) with
  | some e => some e
  | none => m.last

/-- The committed entry of an output's remembered channel. -/
def State.entryOf (s : State) (o : OutputId) : Option MapEntry :=
  match s.ou[o].channel with
  | none => none
  | some ch => s.cm.committed.resolve ch

/-! ### The guide (R69 to R71, R84) -/

/-- A programme's end (R69), a plain integer. -/
def GuideEvent.finish (e : GuideEvent) : Nat := e.start + e.duration

/-- Title bytes in use (R71). -/
def Guide.poolUse (g : Guide) : Nat := (g.events.map fun e => e.title.length).sum

/-- The service's current programme at guide minute `n` (R84). -/
def Guide.currentAt (g : Guide) (service n : Nat) : Option GuideEvent :=
  g.events.find? fun e => e.service == service && decide (e.start ≤ n) && decide (n < e.finish)

/-- The record of a service with an event id (R84). -/
def Guide.record (g : Guide) (service eventId : Nat) : Option GuideEvent :=
  g.events.find? fun e => e.service == service && e.eventId == eventId

/-- The service's current programme, none while time is unknown (R84). -/
def State.current (s : State) (service : Nat) : Option GuideEvent :=
  match s.now with
  | none => none
  | some n => s.pg.currentAt service n

/-- The current programme of an output's service, its remembered channel (R72, R84). -/
def State.currentOf (s : State) (o : OutputId) : Option GuideEvent :=
  match s.ou[o].channel with
  | none => none
  | some ch => s.current ch

/-! ### Tiers, credit and purchases (R90, R97 to R99) -/

/-- A tier record is effective on a day, or while no day is known (R90). -/
def TierRecord.effective (r : TierRecord) (clock : Option WallClock) : Bool :=
  r.held && match clock with
    | none => true
    | some c => decide (c.day ≤ r.expiry)

/-- A tier is effective now (R90). -/
def State.tierEffective (s : State) (t : TierId) : Bool := s.ep.ent.tiers[t].effective s.tb.clock

/-- A record counts toward the credit used (R97). -/
def Purchase.counts (p : Purchase) : Bool := p.state != .reported

/-- The credit used (R99). -/
def Purchasing.creditUsed (e : Purchasing) : Nat :=
  ((e.log.filter Purchase.counts).map Purchase.price).sum

/-- The log's record of a service and an event id (R98). -/
def Purchasing.recordFor (e : Purchasing) (service eventId : Nat) : Option Purchase :=
  e.log.find? fun p => p.service == service && p.eventId == eventId

/-- The record a purchase slot holds (R98). -/
def Purchasing.inSlot (e : Purchasing) (k : SlotId) : Option Purchase :=
  e.log.find? fun p => p.slot == k

/-! ### The PIN state (R124) -/

/-- UNSET without a PIN, LOCKED_OUT while lockout minutes are left, ARMED otherwise. -/
def PinRecord.state (r : PinRecord) : PinState :=
  if 0 < r.lockout then .lockedOut
  else match r.pin with
    | none => .unset
    | some _ => .armed

/-- The part's PIN state. -/
def State.pinState (s : State) : PinState := s.pc.record.state

/-- The profile bound to an output (R120). -/
def State.boundProfile (s : State) (o : OutputId) : Profile := s.pc.profiles[s.pc.bindings[o]]

/-- An output's pass becomes `p`. -/
def State.setPass (o : OutputId) (p : Option Pass) (s : State) : State :=
  { s with pc := { s.pc with passes := s.pc.passes.set o p } }

/-! ### Output pins -/

/-- The output pins do `e`. -/
def State.emit (e : PinEvent) (s : State) : State :=
  { s with pins := { s.pins with wave := s.pins.wave ++ [e] } }

/-- PGATEn is driven to `b` (R156). -/
def State.drivePicture (o : OutputId) (b : Bool) (s : State) : State :=
  if s.pins.picture[o] = b then s
  else { s with pins := { s.pins with picture := s.pins.picture.set o b,
                                      wave := s.pins.wave ++ [.picture o b] } }

/-- DGATEn is driven to `b` (R156). -/
def State.driveDescramble (o : OutputId) (b : Bool) (s : State) : State :=
  if s.pins.descramble[o] = b then s
  else { s with pins := { s.pins with descramble := s.pins.descramble.set o b,
                                      wave := s.pins.wave ++ [.descramble o b] } }

/-- Both gates off, descramble first (R156, R157). -/
def State.gatesOff (o : OutputId) (s : State) : State :=
  (s.driveDescramble o false).drivePicture o false

/-- The gates take their values in the order of R156: descramble off before picture off, picture on
before descramble on. -/
def State.driveGates (o : OutputId) (picture descramble : Bool) (s : State) : State :=
  if descramble then (s.drivePicture o picture).driveDescramble o true
  else (s.driveDescramble o false).drivePicture o picture

/-- A route word: the tuner in 2 bits, 3 for none, then the slot in 2 bits (R56). -/
def routeWord : Option Route → BitVec 4
  | none => 0b1100
  | some r => BitVec.ofNat 2 r.tuner.val ++ BitVec.ofNat 2 r.slot.val

/-- A route word is loaded with both gates off (R56, R57). -/
def State.loadRoute (o : OutputId) (r : Option Route) (s : State) : State :=
  (s.gatesOff o).emit (.route o (routeWord r))

/-- A route word is loaded for each output whose route is not what it was in `old` (R56). -/
def State.loadRoutes (old s : State) : State :=
  allOutputs.foldl (fun acc o => if old.route o = s.route o then acc else acc.loadRoute o (s.route o)) s

/-! ### The settings store (R204 to R210) -/

/-- A record as a write leaves it: its content with the check value computed over it (R204, R210). -/
def Stored.written {α : Type} (content : α) : Stored α :=
  { content := content, check := Config.checkValue content }

/-- A record as its reader finds it: blank where it was never written, and where its check value does not
match its content (R204). -/
def readRecord {α : Type} : Option (Stored α) → Option α
  | none => none
  | some x => if x.check = Config.checkValue x.content then some x.content else none

/-- A record's place in the class order (R208). -/
def RecordId.rank : RecordId → Nat
  | .slot k => k.val
  | .sequence => 32
  | .pin => 33
  | .entitlements => 34
  | .profile p => 35 + p.val
  | .bindings => 39
  | .map => 40
  | .feedSetup => 41
  | .tunerSetup => 42

/-- A record joins the dirty set, which is kept in class order (R207). -/
def joinDirty (r : RecordId) : List RecordId → List RecordId
  | [] => [r]
  | x :: xs =>
    if r.rank < x.rank then r :: x :: xs
    else if r.rank = x.rank then x :: xs
    else x :: joinDirty r xs

/-- An owner marks a record dirty (R207). -/
def State.markDirty (r : RecordId) (s : State) : State :=
  { s with ss := { s.ss with dirty := joinDirty r s.ss.dirty } }

/-- The state in which a record is stored: never PENDING (R106). -/
def Purchase.stored (p : Purchase) : Purchase :=
  { p with state := if p.state = .reported then .reported else .opened }

/-- The content an owner supplies at a write's start (R106, R208, R209). -/
def State.supply (s : State) : RecordId → Content
  | .slot k => .slot k ((s.ep.inSlot k).map Purchase.stored) s.ep.seq
  | .sequence => .sequence s.ep.seq
  | .pin => .pin s.pc.record
  | .entitlements => .entitlements s.ep.ent
  | .profile p => .profile p s.pc.profiles[p]
  | .bindings => .bindings s.pc.bindings
  | .map => .map s.cm.committed
  | .feedSetup => .feedSetup s.hf.setup
  | .tunerSetup => .tunerSetup s.tp.ifKHz

/-- What stays dirty when the write of `r` starts: a slot write takes SEQUENCE with it (R209). -/
def dirtyAfterStart (r : RecordId) (rest : List RecordId) : List RecordId :=
  match r with
  | .slot _ => rest.filter (· ≠ .sequence)
  | _ => rest

/-- With the engine IDLE and records dirty, the write of the highest one starts (R208). -/
def State.startWrite (s : State) : State :=
  match s.ss.engine, s.ss.dirty with
  | none, r :: rest =>
    { s with ss := { s.ss with engine := some (s.supply r), dirty := dirtyAfterStart r rest } }
  | _, _ => s

end Sys2Proof.Machine
end

