-- ==== Sys2Proof/Machine/Allocation.lean ====
section
/-! DEFINITION. Divisor arithmetic, acquisition starts, and the arbiter over the tuner pool (chapter 2,
sections 2.2, 2.4, 2.6 and 2.7). -/

namespace Sys2Proof.Machine

/-- The nominal divisor of a carrier at an IF (R20). -/
def nominalDivisor (carrier ifKHz : Nat) : Nat := (16 * (carrier + ifKHz) + 500) / 1000

/-- The rounding residue N0 × 62.5 − f_LO in half-kHz (R20). -/
def residue (carrier ifKHz : Nat) : Int :=
  (nominalDivisor carrier ifKHz : Int) * 125 - 2 * ((carrier : Int) + ifKHz)

/-- The word M = floor(N / 32) (R21). -/
def divisorM (n : Nat) : Nat := n / 32

/-- The word S = N − 32 × M (R21). -/
def divisorS (n : Nat) : Nat := n % 32

/-- The 15 bits of a transfer: M in 10 bits, then S in 5 bits (R21). -/
def divisorWord (n : Nat) : BitVec 15 := BitVec.ofNat 10 (divisorM n) ++ BitVec.ofNat 5 (divisorS n)

/-- The divisor in force on a tuner that is not IDLE (R19). -/
def Tuner.divisor (x : Tuner) : Option Nat := x.n0.map fun n => ((n : Int) + x.offset).toNat

/-- The tuner's record becomes `x` and its divisor is loaded into the front end (R21): at once, and so before
the route words and gate moves of the same event, an order the spec does not fix (log 13). -/
def State.loadDivisor (t : TunerId) (x : Tuner) (s : State) : State :=
  let s := s.setTuner t x
  match x.divisor with
  | none => s
  | some n => s.emit (.divisor t (divisorWord n))

/-- The record an acquisition start leaves (R23). -/
def acquisition (carrier ifKHz : Nat) : Tuner :=
  { state := .settling, carrier := some carrier, n0 := some (nominalDivisor carrier ifKHz), offset := 0,
    corrections := 0, lastCount := none, reason := none }

/-- An acquisition start on a carrier (R23). -/
def State.acquire (t : TunerId) (carrier : Nat) (s : State) : State :=
  s.loadDivisor t (acquisition carrier s.tp.ifKHz)

/-- The tuner that is not IDLE and holds a carrier (R33 case 1). -/
def State.holder (s : State) (carrier : Nat) : Option TunerId :=
  allTuners.find? fun t => s.tp.tuners[t].state != .idle && s.tp.tuners[t].carrier == some carrier

/-- The lowest-numbered IDLE tuner (R33 case 3). -/
def State.idleTuner (s : State) : Option TunerId :=
  allTuners.find? fun t => s.tp.tuners[t].state == .idle

/-- The tuner an output has to itself (R33 case 2). -/
def State.ownTuner (s : State) (o : OutputId) : Option TunerId :=
  match s.ou[o].attachment with
  | .tuner t _ => if s.attachedTo t = [o] then some t else none
  | _ => none

/-- What allocation chooses (R33). -/
inductive Choice where
  | attach (t : TunerId) | retune (t : TunerId) | start (t : TunerId) | none
deriving DecidableEq, Repr

/-- Allocation for an output that needs a carrier: the first case that applies (R33). -/
def State.choose (s : State) (o : OutputId) (carrier : Nat) : Choice :=
  match s.holder carrier with
  | some t => .attach t
  | Option.none =>
    match s.ownTuner o with
    | some t => .retune t
    | Option.none =>
      match s.idleTuner with
      | some t => .start t
      | Option.none => .none

/-- Waiting outputs that need the carrier are attached to the tuner, in ascending number (R38). -/
def State.attachWaiters (t : TunerId) (carrier : Nat) (s : State) : State :=
  allOutputs.foldl (fun acc o =>
    if acc.ou[o].attachment = .waiting then
      match acc.entryOf o with
      | some e => if e.carrier = carrier then acc.attach o (.tuner t e.slot) else acc
      | none => acc
    else acc) s

/-- The effects of a choice on the output, the tuner and the outputs that wait for the carrier (R34
steps 2 and 4); the old tuner is looked to afterwards. -/
def State.place (o : OutputId) (carrier : Nat) (slot : ServiceSlot) (c : Choice) (s : State) : State :=
  match c with
  | .attach t => s.attach o (.tuner t slot)
  | .retune t | .start t =>
    ((s.attach o (.tuner t slot)).acquire t carrier).attachWaiters t carrier
  | .none => s

/-- Service of the waiting list (R37): each waiting output, in ascending number, is offered
allocation. -/
def State.serveWaiting (s : State) : State :=
  allOutputs.foldl (fun acc o =>
    if acc.ou[o].attachment = .waiting then
      match acc.entryOf o with
      | some e => acc.place o e.carrier e.slot (acc.choose o e.carrier)
      | none => acc
    else acc) s

/-- A tuner that is not IDLE and has no output attached. -/
def State.emptied (s : State) (t : TunerId) : Bool :=
  s.tp.tuners[t].state != .idle && (s.attachedTo t).isEmpty

/-- Every tuner whose attached set is empty goes to IDLE (R31). -/
def State.idleEmptied (s : State) : State :=
  allTuners.foldl (fun acc t => if s.emptied t then acc.setTuner t .idle else acc) s

/-- After a detachment: emptied tuners go to IDLE, and if one did, the waiting list is served once
(R31, R34 step 3, R35). -/
def State.release (s : State) : State :=
  if allTuners.any s.emptied then s.idleEmptied.serveWaiting else s

/-- Allocation with its effects (R33, R34): none where no tuner can serve. -/
def State.allocate (o : OutputId) (carrier : Nat) (slot : ServiceSlot) (s : State) : Option State :=
  match s.choose o carrier with
  | .none => Option.none
  | c => some (s.place o carrier slot c).release

/-- Allocation, or the waiting list where it gives NONE (R46, R54). -/
def State.allocateOrWait (o : OutputId) (e : MapEntry) (s : State) : State :=
  match s.allocate o e.carrier e.slot with
  | some s' => s'
  | Option.none => s.attach o .waiting

/-- A detach set (R35): the named outputs leave their tuners, or the waiting list, before any tuner is
looked to. -/
def State.detachSet (os : List OutputId) (s : State) : State :=
  (os.foldl (fun acc o => acc.attach o .none) s).release

/-- Release all (R35): no output is attached or waits, and every tuner is IDLE. -/
def State.releaseAll (s : State) : State :=
  let s := allOutputs.foldl (fun acc o => acc.attach o .none) s
  allTuners.foldl (fun acc t => acc.setTuner t .idle) s

end Sys2Proof.Machine
end

