-- ==== Sys2Proof/Machine/Bytes.lean ====
section
/-! DEFINITION. Byte order and field coding (R192, section 9.3): most significant byte first on both
links, one byte a flag, a presence byte before an optional field, a count byte before a list. -/

namespace Sys2Proof.Machine

/-- The byte of a number below 256. -/
def toByte (n : Nat) : Byte := BitVec.ofNat 8 n

/-- A one-byte unsigned field (R192). -/
def u8 (n : Nat) : List Byte := [toByte n]

/-- A two-byte unsigned field, most significant byte first (R192). -/
def u16 (n : Nat) : List Byte := [toByte (n / 256), toByte n]

/-- A three-byte unsigned field (R192). -/
def u24 (n : Nat) : List Byte := [toByte (n / 65536), toByte (n / 256), toByte n]

/-- A four-byte unsigned field (R192). -/
def u32 (n : Nat) : List Byte :=
  [toByte (n / 16777216), toByte (n / 65536), toByte (n / 256), toByte n]

/-- An unsigned field of `k` bytes, for the sets of QUERY TIERS (R192). -/
def uBytes : Nat → Nat → List Byte
  | 0, _ => []
  | k + 1, n => uBytes k (n / 256) ++ [toByte n]

/-- Yes or no, on or off, set or clear (R192). -/
def flag (b : Bool) : List Byte := [if b then 1 else 0]

/-- Offset and residue: one byte in two's complement (R192). -/
def i8 (i : Int) : List Byte := [BitVec.ofInt 8 i]

/-- An optional field: a presence byte, then the value when present (R192). -/
def opt {α : Type} (code : α → List Byte) : Option α → List Byte
  | none => [0]
  | some a => 1 :: code a

/-- A list, label or title: a count byte, then the items (R192). -/
def listField {α : Type} (code : α → List Byte) (l : List α) : List Byte :=
  toByte l.length :: (l.map code).flatten

/-- The value of a big-endian run of bytes. -/
def beNat (l : List Byte) : Nat := l.foldl (fun n b => n * 256 + b.toNat) 0

/-- Cuts the first `n` bytes from a body, or nothing when it is shorter. -/
def cut (n : Nat) (l : List Byte) : Option (List Byte × List Byte) :=
  if l.length < n then none else some (l.take n, l.drop n)

/-- Reads an unsigned big-endian field of `n` bytes. -/
def readNat (n : Nat) (l : List Byte) : Option (Nat × List Byte) :=
  (cut n l).map fun (a, r) => (beNat a, r)

/-- Reads `k` items one after another. -/
def readMany {α : Type} (item : List Byte → Option (α × List Byte)) :
    Nat → List Byte → Option (List α × List Byte)
  | 0, l => some ([], l)
  | k + 1, l =>
    match item l with
    | none => none
    | some (a, r) => (readMany item k r).map fun (as, r') => (a :: as, r')

/-! ### Named values: the position in the list the owning rule gives (R192) -/

/-- OFF to CLEAR (R146). -/
def Decision.code : Decision → Nat
  | .off => 0 | .blank => 1 | .noTuner => 2 | .disconnected => 3 | .acquiring => 4 | .noSignal => 5
  | .blockedParental _ => 6 | .blockedTier _ => 7 | .blockedPay _ => 8 | .preview _ => 9 | .clear => 10

/-- A reason's position in its decision's own list (R146; log 9). -/
def Decision.reasonCode : Decision → Option Nat
  | .blockedParental .channelLock => some 0
  | .blockedParental .window => some 1
  | .blockedParental .unrated => some 2
  | .blockedParental .rating => some 3
  | .blockedParental .content => some 4
  | .blockedPay .noEvent => some 0
  | .blockedPay .pending => some 1
  | .blockedPay .notBought => some 2
  | _ => none

/-- The tier field of a decision record, present with BLOCKED_TIER (R146). -/
def Decision.tier? : Decision → Option TierId
  | .blockedTier t => some t
  | _ => none

/-- The preview minutes left, present with PREVIEW (R146). -/
def Decision.minutes? : Decision → Option Nat
  | .preview n => some n
  | _ => none

/-- IDLE to FAILED (R17). -/
def TunerState.code : TunerState → Nat
  | .idle => 0 | .settling => 1 | .measuring => 2 | .locked => 3 | .failed => 4

/-- NO_LOCK, NO_CARRIER, OFF_FREQUENCY (R17). -/
def FailReason.code : FailReason → Nat
  | .noLock => 0 | .noCarrier => 1 | .offFrequency => 2

/-- STANDBY, ACTIVE (R43). -/
def Mode.code : Mode → Nat
  | .standby => 0 | .active => 1

/-- T0, T1, T2, WAITING, NONE (R58). -/
def Attachment.code : Attachment → Nat
  | .tuner t _ => t.val | .waiting => 3 | .none => 4

/-- FREE, TIER, PAY (R1). -/
def AccessClass.code : AccessClass → Nat
  | .free => 0 | .tier _ => 1 | .pay => 2

/-- The tier of an entry, present with TIER (R1). -/
def AccessClass.tier? : AccessClass → Option TierId
  | .tier t => some t
  | _ => none

/-- PENDING, OPEN, REPORTED (R97). -/
def PurchaseState.code : PurchaseState → Nat
  | .pending => 0 | .opened => 1 | .reported => 2

/-- ACTIVE, DISCONNECTED (R96). -/
def UnitState.code : UnitState → Nat
  | .active => 0 | .disconnected => 1

/-- UNSET, ARMED, LOCKED_OUT (R124). -/
def PinState.code : PinState → Nat
  | .unset => 0 | .armed => 1 | .lockedOut => 2

/-- STROBE, LEADING, TRAILING (R182). -/
def PortMode.code : PortMode → Nat
  | .strobe => 0 | .leading => 1 | .trailing => 2

/-- ACTIVE_HIGH, ACTIVE_LOW (R182). -/
def Polarity.code : Polarity → Nat
  | .activeHigh => 0 | .activeLow => 1

/-- OVERRUN, TIMEOUT, OUT_OF_TURN (R183). -/
def FeedFault.code : FeedFault → Nat
  | .overrun => 0 | .timeout => 1 | .outOfTurn => 2

/-- POWER_ON, RESET_LINE, RESTART (R202). -/
def ResetCause.code : ResetCause → Nat
  | .powerOn => 0 | .resetLine => 1 | .restart => 2

/-- The status codes of chapter 10. -/
def Status.code : Status → Nat
  | .ok => 0x00 | .accepted => 0x01 | .busy => 0x02 | .unknown => 0x03 | .badLength => 0x04
  | .badField => 0x05 | .standby => 0x06 | .noChannel => 0x07 | .noTuner => 0x08 | .noTime => 0x09
  | .noEvent => 0x0A | .notPay => 0x0B | .already => 0x0C | .noCredit => 0x0D | .logFull => 0x0E
  | .parental => 0x0F | .disconnected => 0x10 | .wrongPin => 0x11 | .lockedOut => 0x12
  | .frozen => 0x13 | .notBlocked => 0x14 | .noPin => 0x15

/-- A reply frame (section 10.1). -/
def Reply.frame (r : Reply) : List Byte :=
  Config.frameStart :: toByte r.body.length :: r.kind :: r.tag :: toByte r.status.code :: r.body

end Sys2Proof.Machine
end

