-- ==== Sys2Proof/Machine/Replies.lean ====
section
/-! DEFINITION. The reply bodies, field by field in the order their owners' rules list the fields, coded
as R192 states. -/

namespace Sys2Proof.Machine

/-- A set as one unsigned value with the member at position `k` at bit `k` (R192). -/
def setValue (positions : List Nat) : Nat := (positions.map (2 ^ ·)).sum

/-- A route: tuner, slot (R58). -/
def routeBody (r : Route) : List Byte := u8 r.tuner.val ++ u8 r.slot.val

/-- A pass: scope, service, and event id or minutes left (R58). -/
def passBody : Pass → List Byte
  | .event service eventId => u8 0 ++ u16 service ++ u16 eventId
  | .channel service left => u8 1 ++ u16 service ++ u8 left

/-- Every field of a decision record (R146). The tier takes one byte, which R192 does not say, and the reason
is coded within its decision's own list (log 9). -/
def decisionBody (r : DecisionRecord) : List Byte :=
  u8 r.decision.code ++ opt u8 r.decision.reasonCode ++ opt (fun t => u8 t.val) r.decision.tier? ++
    opt u8 r.decision.minutes? ++ opt u16 r.eventId ++ opt passBody r.pass ++ opt u16 r.channel ++
    opt routeBody r.route ++ flag r.picture ++ flag r.descramble

/-- QUERY OUTPUT's reply (R58). -/
def outputBody (s : State) (o : OutputId) : List Byte :=
  u8 o.val ++ u8 s.ou[o].mode.code ++ opt u16 s.ou[o].channel ++ u8 s.ou[o].attachment.code ++
    opt routeBody (s.route o) ++ opt passBody s.pc.passes[o] ++ decisionBody s.ae[o]

/-- An IF count, OVERFLOW being 0xFFFFFF (R192). -/
def ifCountBody : IfCount → List Byte
  | .count c => u24 c
  | .overflow => u24 0xFFFFFF

/-- QUERY TUNER's reply (R41); M and S are one optional field (log 9). -/
def tunerBody (s : State) (t : TunerId) : List Byte :=
  let x := s.tp.tuners[t]
  u8 t.val ++ u8 x.state.code ++ opt u24 x.carrier ++ opt u16 x.n0 ++ i8 x.offset ++ opt u16 x.divisor ++
    opt (fun n => u16 (divisorM n) ++ u16 (divisorS n)) x.divisor ++ u8 x.corrections ++
    opt ifCountBody x.lastCount ++ opt (fun r => u8 r.code) x.reason ++
    u8 (setValue ((s.attachedTo t).map (·.val))) ++
    opt (fun c => i8 (residue c s.tp.ifKHz)) x.carrier ++ u24 s.tp.ifKHz

/-- A map entry with every field of R1 (R14). The tier is optional and takes one byte, which R192 does not
say (log 9). -/
def entryBody (e : MapEntry) : List Byte :=
  u16 e.channel ++ u24 e.carrier ++ u8 e.slot.val ++ flag e.scrambled ++ u8 e.access.code ++
    opt (fun t => u8 t.val) e.access.tier? ++ listField (fun c => [c]) e.label

/-- A programme's summary (R87). -/
def summaryBody (e : GuideEvent) : List Byte :=
  u16 e.eventId ++ u32 e.start ++ u16 e.duration ++ u8 e.rating ++ u8 e.flags.toNat ++ u8 e.price ++
    u8 e.preview ++ u8 e.title.length

/-- A purchase record as QUERY PURCHASES lists it (R115). -/
def purchaseBody (p : Purchase) : List Byte :=
  u32 p.seq ++ u16 p.service ++ u16 p.eventId ++ u32 p.start ++ u32 p.finish ++ u8 p.price ++
    u32 p.minute ++ u8 p.state.code

/-- A page of at most `n` further items: it stops before the item that would take the body above 250
bytes, and the next pointer then names that item (R192; log 10). `assemble` builds the body from the
items returned and the first one not returned. -/
def pageFrom {α : Type} (assemble : List α → Option α → List Byte) : Nat → List α → List α → List Byte
  | 0, taken, rest => assemble taken rest.head?
  | _ + 1, taken, [] => assemble taken none
  | n + 1, taken, x :: xs =>
    if Config.maxBody < (assemble (taken ++ [x]) xs.head?).length then assemble taken (some x)
    else pageFrom assemble n (taken ++ [x]) xs

/-- QUERY MAP's reply (R14). -/
def mapPage (m : Lineup) (first count : Nat) : List Byte :=
  pageFrom (fun taken next =>
      opt u8 m.version ++ u16 m.entries.length ++ listField entryBody taken ++
        opt (fun e => u16 e.channel) next)
    (min count 16) [] (m.entries.filter fun e => first ≤ e.channel)

/-- QUERY GUIDE's reply (R87). -/
def guidePage (g : Guide) (service fromMinute count : Nat) : List Byte :=
  let stored := g.events.filter fun e => e.service == service
  pageFrom (fun taken next =>
      u16 service ++ u16 stored.length ++ listField summaryBody taken ++ opt (fun e => u32 e.start) next)
    (min count 16) [] (stored.filter fun e => fromMinute < e.finish)

/-- QUERY PURCHASES's reply (R115). -/
def purchasePage (e : Purchasing) (fromSeq count : Nat) : List Byte :=
  pageFrom (fun taken next =>
      u8 e.log.length ++ u16 e.ent.limit ++ u16 e.creditUsed ++ u32 e.seq.next ++
        listField purchaseBody taken ++ opt (fun p => u32 p.seq) next)
    (min count 8) [] (e.log.filter fun p => fromSeq ≤ p.seq)

/-- The tiers 0 to 63. -/
def allTiers : List TierId := List.finRange 64

/-- QUERY TIERS's reply (R116, R192). -/
def tiersBody (s : State) : List Byte :=
  uBytes 8 (setValue ((allTiers.filter fun t => s.ep.ent.tiers[t].held).map (·.val))) ++
    uBytes 8 (setValue ((allTiers.filter s.tierEffective).map (·.val))) ++
    (allTiers.map fun t => u16 s.ep.ent.tiers[t].expiry).flatten ++
    u16 s.ep.ent.limit ++ u16 s.ep.creditUsed ++ u8 s.ep.ent.unitState.code

/-- A window: from, to. -/
def windowBody (w : Window) : List Byte := u16 w.opens ++ u16 w.closes

/-- QUERY PROFILE's reply (R135). -/
def profileBody (s : State) (p : ProfileId) : List Byte :=
  let v := s.pc.profiles[p]
  u8 v.ceiling ++ flag v.blockUnrated ++ u8 v.blocked.toNat ++ flag v.purchasePin ++
    opt windowBody v.window ++ listField u16 v.locked ++
    u8 (setValue ((allOutputs.filter fun o => s.pc.bindings[o] == p).map (·.val)))

/-- The known flag, the day and the second of day, the last two optional (R194, R66). -/
def clockBody (c : Option WallClock) : List Byte :=
  flag c.isSome ++ opt u16 (c.map WallClock.day) ++ opt u24 (c.map WallClock.second)

/-- The unit address of the IDENTITY record (R204, R205). -/
def State.unitAddress (s : State) : Nat :=
  match readRecord s.ss.records.identity with
  | some i => i.unitAddress
  | none => Config.blankUnitAddress

/-- The revision of the IDENTITY record (R204, R205). -/
def State.revision (s : State) : Nat :=
  match readRecord s.ss.records.identity with
  | some i => i.revision
  | none => 0

/-- IDENT's reply (R193). -/
def identBody (s : State) : List Byte :=
  u8 Config.vendorCode ++ u16 Config.partCode ++ u8 s.revision ++ u32 s.unitAddress ++ u16 s.hf.setup.group

/-- PIN state, attempt counter, lockout minutes (R143, R194). -/
def pinBody (s : State) : List Byte :=
  u8 s.pinState.code ++ u8 s.pc.record.attempts ++ u8 s.pc.record.lockout

/-- Credit limit, credit used. -/
def creditBody (s : State) : List Byte := u16 s.ep.ent.limit ++ u16 s.ep.creditUsed

/-- STATUS's reply (R194). -/
def statusBody (s : State) : List Byte :=
  clockBody s.tb.clock ++ u8 s.ep.ent.unitState.code ++ pinBody s ++ flag s.pc.frozen ++ creditBody s ++
    u8 s.ep.log.length ++ opt u8 s.cm.committed.version ++
    (allTuners.map fun t => u8 s.tp.tuners[t].state.code).flatten ++
    (allOutputs.map fun o => u8 s.ae[o].decision.code).flatten ++
    u24 s.cl.latches.toNat ++ u16 s.cl.mask.toNat

/-- Bytes in the feed buffer (R172). -/
def HeadendFeed.byteCount (h : HeadendFeed) : Nat := (h.buffer.filter (· ≠ .gap)).length

/-- Mode and polarities. -/
def setupBody (f : FeedSetup) : List Byte := u8 f.mode.code ++ u8 f.fstb.code ++ u8 f.fack.code

/-- The snapshot a notice's owner supplies at the TAKE (R200). The version in MAP_COMMITTED and the last fault
kind in FEED_FAULT have a presence byte, though R13, R183 and R200 do not call them optional there, where
neither is ever absent (log 9). -/
def snapshot (s : State) : Notice → List Byte
  | .ready => u8 s.cl.cause.code ++ u8 s.revision ++ flag s.tb.clock.isSome ++ opt u8 s.cm.committed.version
  | .pinLockout => pinBody s
  | .outputState o => decisionBody s.ae[o]
  | .tunerFault t => tunerBody s t
  | .purchaseDone => opt u32 s.ep.lastCompleted ++ u8 s.ep.log.length ++ creditBody s
  | .logNearFull =>
    u8 s.ep.log.length ++ u8 (s.ep.log.filter fun p => p.state == .reported).length
  | .entitlement =>
    u8 s.ep.ent.unitState.code ++ creditBody s ++ u8 s.ep.log.length ++
      u8 (allTiers.filter s.tierEffective).length
  | .mapCommitted => opt u8 s.cm.committed.version ++ u16 s.cm.committed.entries.length
  | .timeSet => clockBody s.tb.clock
  | .guideFull => u16 s.pg.events.length ++ u16 s.pg.poolUse
  | .feedFault =>
    setupBody s.hf.setup ++ opt (fun f => u8 f.code) s.hf.lastFault ++ u16 s.hf.byteCount ++
      flag (s.hf.buffer.contains .gap)
  | .feedSilent => setupBody s.hf.setup ++ u16 s.hf.setup.group ++ flag s.hf.silence

end Sys2Proof.Machine
end

