-- ==== Sys2Proof/Machine/Access.lean ====
section
/-! DEFINITION. The parental test (section 7.2) and the access evaluator (chapter 8): the decision of an
output, its record, its gates and OUTPUT_STATE; and the close of an event. -/

namespace Sys2Proof.Machine

/-- A window admits a minute of day (R122). -/
def Window.admits (w : Window) (m : Nat) : Bool :=
  if w.opens < w.closes then decide (w.opens ≤ m) && decide (m < w.closes)
  else decide (w.opens ≤ m) || decide (m < w.closes)

/-- Condition 2 of R121. -/
def Profile.outsideWindow (p : Profile) (minute : Option Nat) : Bool :=
  match p.window, minute with
  | none, _ => false
  | some _, none => true
  | some w, some m => !w.admits m

/-- Condition 3 of R121. -/
def Profile.failsUnrated (p : Profile) (cur : Option GuideEvent) : Bool :=
  p.blockUnrated && match cur with
    | none => true
    | some e => e.rating == 0

/-- Condition 4 of R121. -/
def Profile.failsRating (p : Profile) (cur : Option GuideEvent) : Bool :=
  match cur with
  | none => false
  | some e => decide (p.ceiling < e.rating)

/-- Condition 5 of R121. -/
def Profile.failsContent (p : Profile) (cur : Option GuideEvent) : Bool :=
  match cur with
  | none => false
  | some e => e.flags &&& p.blocked != 0

/-- The parental test's failing condition, the first that holds (R121); none is PASS. -/
def Profile.test (p : Profile) (channel : Nat) (minute : Option Nat) (cur : Option GuideEvent) :
    Option ParentalReason :=
  if p.locked.contains channel then some .channelLock
  else if p.outsideWindow minute then some .window
  else if p.failsUnrated cur then some .unrated
  else if p.failsRating cur then some .rating
  else if p.failsContent cur then some .content
  else none

/-- A pass matches an output's channel and current programme (R137). -/
def Pass.covers (p : Pass) (channel : Nat) (cur : Option GuideEvent) : Bool :=
  match p with
  | .channel service _ => service == channel
  | .event service eventId =>
    service == channel && match cur with
      | some e => e.eventId == eventId
      | none => false

/-- What PC answers AE (R123). -/
inductive TestAnswer where
  | notApplied | overridden (p : Pass) | passed | failed (r : ParentalReason)
deriving DecidableEq, Repr

/-- The parental test of an output on a channel (R123). -/
def State.parentalTest (s : State) (o : OutputId) (channel : Nat) : TestAnswer :=
  match s.pinState with
  | .unset => .notApplied
  | .armed | .lockedOut =>
    let result := match (s.boundProfile o).test channel s.minuteOfDay (s.current channel) with
      | some r => TestAnswer.failed r
      | none => .passed
    match s.pc.passes[o] with
    | some p => if p.covers channel (s.current channel) then .overridden p else result
    | none => result

/-- Step 8 of the evaluation, for a PAY channel (R154). -/
def State.decidePay (s : State) (service : Nat) : Decision :=
  match s.now, s.current service with
  | some n, some e =>
    if e.price = 0 then .clear
    else
      match (s.ep.recordFor service e.eventId).map Purchase.state with
      | some .opened | some .reported => .clear
      | some .pending =>
        if n < e.start + e.preview then .preview (e.start + e.preview - n) else .blockedPay .pending
      | none =>
        if n < e.start + e.preview then .preview (e.start + e.preview - n) else .blockedPay .notBought
  | _, _ => .blockedPay .noEvent

/-- Steps 7 to 9 of the evaluation (R153, R154). -/
def State.decideEntitled (s : State) (e : MapEntry) : Decision :=
  match e.access with
  | .free => .clear
  | .tier t => if s.tierEffective t then .clear else .blockedTier t
  | .pay => s.decidePay e.channel

/-- Steps 4 to 9, on an attached output (R150 to R154), with the pass that set the test aside. An
output with a tuner has an entry (R44); without one it is given BLANK (log 12). -/
def State.decideAttached (s : State) (o : OutputId) (channel : Nat) (t : TunerId) :
    Decision × Option Pass :=
  if s.ep.ent.unitState = .disconnected then (.disconnected, none)
  else
    match s.tp.tuners[t].state with
    | .settling | .measuring | .idle => (.acquiring, none)
    | .failed => (.noSignal, none)
    | .locked =>
      match s.cm.committed.resolve channel with
      | none => (.blank, none)
      | some e =>
        match s.parentalTest o channel with
        | .failed r => (.blockedParental r, none)
        | .overridden p => (s.decideEntitled e, some p)
        | .notApplied | .passed => (s.decideEntitled e, none)

/-- Steps 1 to 9 of the evaluation (R149 to R154). An ACTIVE output with a channel is attached or
waiting (R44); with neither it is given NO_TUNER (log 12). -/
def State.decideOutput (s : State) (o : OutputId) : Decision × Option Pass :=
  match s.ou[o].mode with
  | .standby => (.off, none)
  | .active =>
    match s.ou[o].channel with
    | none => (.blank, none)
    | some ch =>
      match s.ou[o].attachment with
      | .tuner t _ => s.decideAttached o ch t
      | .waiting | .none => (.noTuner, none)

/-- The picture gate of a decision (R147, R156). -/
def Decision.showsPicture : Decision → Bool
  | .clear | .preview _ => true
  | _ => false

/-- The channel of an output is scrambled. -/
def State.scrambled (s : State) (o : OutputId) : Bool :=
  match s.entryOf o with
  | some e => e.scrambled
  | none => false

/-- The record an evaluation gives an output (R148 to R156). -/
def State.decisionRecord (s : State) (o : OutputId) : DecisionRecord :=
  let d := s.decideOutput o
  { decision := d.1
    eventId := if s.isActive o then (s.currentOf o).map GuideEvent.eventId else none
    pass := d.2
    channel := s.ou[o].channel
    route := s.route o
    picture := d.1.showsPicture
    descramble := d.1.showsPicture && s.scrambled o }

/-- A decision without its preview minutes. -/
def Decision.withoutMinutes : Decision → Decision
  | .preview _ => .preview 0
  | d => d

/-- Any of the five fields of R162 differs: decision, reason, tier, evaluated channel, evaluated
route. -/
def DecisionRecord.notable (old new : DecisionRecord) : Bool :=
  old.decision.withoutMinutes != new.decision.withoutMinutes || old.channel != new.channel ||
    old.route != new.route

/-- An EVENT pass names a programme other than the output's current one (R138). -/
def State.passStale (s : State) (o : OutputId) : Bool :=
  match s.pc.passes[o] with
  | some (.event _ eventId) =>
    match s.currentOf o with
    | some e => e.eventId != eventId
    | none => true
  | _ => false

/-- The preparatory step of an evaluation (R148). -/
def State.endStalePass (o : OutputId) (s : State) : State :=
  if s.isActive o && s.passStale o then s.setPass o none else s

/-- The record is stored, the gates driven, and OUTPUT_STATE latched where R162 says so. -/
def State.recordDecision (o : OutputId) (r : DecisionRecord) (s : State) : State :=
  let s' := ({ s with ae := s.ae.set o r } : State).driveGates o r.picture r.descramble
  if s.ae[o].notable r then s'.latch (.outputState o) else s'

/-- AE evaluates an output (R148). -/
def State.evaluate (o : OutputId) (s : State) : State :=
  let s := s.endStalePass o
  s.recordDecision o (s.decisionRecord o)

/-- AE evaluates each named output once, in ascending number (R158; log 13). -/
def State.evaluateAll (os : List OutputId) (s : State) : State :=
  allOutputs.foldl (fun acc o => if os.contains o then acc.evaluate o else acc) s

/-- The close of an event: the named outputs are evaluated against the state it leaves, and the write
engine starts if records are dirty (R158, R208). -/
def State.report (os : List OutputId) (s : State) : State := (s.evaluateAll os).startWrite

/-- The outputs that OU and TP report: the record changed, or the attached tuner's state did (R32,
R45). -/
def State.touched (old s : State) : List OutputId :=
  allOutputs.filter fun o =>
    s.ou[o] != old.ou[o] ||
      match s.ou[o].attachment with
      | .tuner t _ => s.tp.tuners[t].state != old.tp.tuners[t].state
      | _ => false

/-- The close of an event that may have changed routes: route words first, with the gates off (R57),
then the evaluations of the outputs touched and of those named besides. The divisor words of the event
stand before them all, an order the spec does not fix (log 13). -/
def State.finish (old : State) (named : List OutputId) (s : State) : State :=
  (State.loadRoutes old s).report (State.touched old s ++ named)

end Sys2Proof.Machine
end

