-- ==== Sys2Proof/Machine/Operands.lean ====
section
/-! DEFINITION. Every operand form: the fields of each request body (chapter 10, request table) and of
each packet body (section 9.3). A request reader answers none where the body's length does not fit
(BAD_LENGTH, R190); a packet reader answers none where the body ends before its fields do. -/

namespace Sys2Proof.Machine

/-- A PIN field: a count byte and that many digit bytes (chapter 10, below the request table). -/
def readPin (l : List Byte) : Option (List Nat × List Byte) :=
  match l with
  | [] => none
  | n :: r => (cut n.toNat r).map fun (d, r') => (d.map BitVec.toNat, r')

/-- A PIN field is absent, or has 4 to 8 digits from 0 to 9; any other is malformed (R100, R128). -/
def pinFormOk (d : List Nat) : Bool :=
  d.isEmpty || (4 ≤ d.length && d.length ≤ 8 && d.all (· ≤ 9))

/-- The body of a request without fields. -/
def readNone (l : List Byte) : Option Unit := if l.isEmpty then some () else none

/-- A body of exactly one field of `n` bytes. -/
def readOne (n : Nat) (l : List Byte) : Option Nat :=
  if l.length = n then some (beNat l) else none

/-- A body of exactly two fields. -/
def readTwo (m n : Nat) (l : List Byte) : Option (Nat × Nat) :=
  if l.length = m + n then some (beNat (l.take m), beNat (l.drop m)) else none

/-- A body of exactly three fields. -/
def readThree (k m n : Nat) (l : List Byte) : Option (Nat × Nat × Nat) :=
  if l.length = k + m + n then
    some (beNat (l.take k), beNat ((l.drop k).take m), beNat (l.drop (k + m)))
  else none

/-- BUY: output, PIN field (R100). -/
structure BuyFields where
  output : Nat
  pin : List Nat
deriving DecidableEq, Repr

def readBuy (l : List Byte) : Option BuyFields :=
  match readNat 1 l with
  | none => none
  | some (o, r) =>
    match readPin r with
    | some (d, []) => some ⟨o, d⟩
    | _ => none

/-- PIN CLEAR: a PIN field (R130). -/
def readPinClear (l : List Byte) : Option (List Nat) :=
  match readPin l with
  | some (d, []) => some d
  | _ => none

/-- PIN SET: the new PIN field, then the current one (R129). -/
structure PinSetFields where
  new : List Nat
  current : List Nat
deriving DecidableEq, Repr

def readPinSet (l : List Byte) : Option PinSetFields :=
  match readPin l with
  | none => none
  | some (d, r) =>
    match readPin r with
    | some (c, []) => some ⟨d, c⟩
    | _ => none

/-- PIN ENTER: output, scope, PIN field; BIND: output, profile, PIN field (R136, R133). -/
structure TwoAndPin where
  first : Nat
  second : Nat
  pin : List Nat
deriving DecidableEq, Repr

def readTwoAndPin (l : List Byte) : Option TwoAndPin :=
  match l with
  | a :: b :: r =>
    match readPin r with
    | some (d, []) => some ⟨a.toNat, b.toNat, d⟩
    | _ => none
  | _ => none

/-- PROFILE SET's fields as carried (R132). -/
structure ProfileSetFields where
  profile : Nat
  ceiling : Nat
  unrated : Nat
  content : Nat
  purchase : Nat
  windowPresent : Nat
  opens : Nat
  closes : Nat
  locked : List Nat
  pin : List Nat
deriving DecidableEq, Repr

def readProfileSet (l : List Byte) : Option ProfileSetFields :=
  match l with
  | p :: c :: u :: f :: b :: w :: f1 :: f0 :: t1 :: t0 :: k :: r =>
    match readMany (readNat 2) k.toNat r with
    | none => none
    | some (chs, r') =>
      match readPin r' with
      | some (d, []) =>
        some ⟨p.toNat, c.toNat, u.toNat, f.toNat, b.toNat, w.toNat, beNat [f1, f0], beNat [t1, t0],
          chs, d⟩
      | _ => none
  | _ => none

/-- The kinds of the request table (chapter 10). -/
def requestKinds : List Byte :=
  [0x01, 0x02, 0x03, 0x04, 0x05, 0x10, 0x11, 0x12, 0x13, 0x14, 0x15, 0x16, 0x20, 0x21, 0x22, 0x30,
   0x31, 0x32, 0x40, 0x41, 0x42, 0x43, 0x44, 0x45, 0x46, 0x50]

/-! ### Packet bodies (section 9.3) -/

/-- TIME: day, and the low 17 bits of a three-byte second of day. -/
def readTime (l : List Byte) : Option WallClock :=
  match l with
  | d1 :: d0 :: s2 :: s1 :: s0 :: _ =>
    some ⟨beNat [d1, d0], beNat [s2, s1, s0] % 131072⟩
  | _ => none

/-- One MAP entry as carried. -/
structure RawEntry where
  channel : Nat
  carrier : Nat
  slot : Nat
  scrambled : Bool
  classCode : Nat
  tier : Nat
  label : List Byte
deriving DecidableEq, Repr

def readEntry (l : List Byte) : Option (RawEntry × List Byte) :=
  match l with
  | c1 :: c0 :: k2 :: k1 :: k0 :: s :: a :: t :: n :: r =>
    (cut n.toNat r).map fun (lab, r') =>
      (⟨beNat [c1, c0], beNat [k2, k1, k0], s.toNat, a.getLsbD 7, a.toNat % 4, t.toNat, lab⟩, r')
  | _ => none

/-- A MAP segment as carried. -/
structure RawSegment where
  version : Nat
  number : Nat
  count : Nat
  entries : List RawEntry
deriving DecidableEq, Repr

/-- A MAP body, ignored as a whole where R4 says so. -/
def readSegment (l : List Byte) : Option RawSegment :=
  match l with
  | v :: n :: c :: k :: r =>
    if c.toNat = 0 ∨ 16 < c.toNat ∨ 15 < n.toNat ∨ c.toNat ≤ n.toNat ∨ 16 < k.toNat then none
    else (readMany readEntry k.toNat r).map fun (es, _) => ⟨v.toNat, n.toNat, c.toNat, es⟩
  | _ => none

/-- One GUIDE event as carried (R72's following table). -/
structure RawEvent where
  eventId : Nat
  day : Nat
  minute : Nat
  duration : Nat
  rating : Nat
  flags : Byte
  price : Nat
  preview : Nat
  title : List Byte
deriving DecidableEq, Repr

def readEvent (l : List Byte) : Option (RawEvent × List Byte) :=
  match l with
  | i1 :: i0 :: d1 :: d0 :: m1 :: m0 :: u1 :: u0 :: ra :: fl :: pr :: pv :: n :: r =>
    (cut n.toNat r).map fun (tl, r') =>
      (⟨beNat [i1, i0], beNat [d1, d0], beNat [m1, m0], beNat [u1, u0], ra.toNat, fl, pr.toNat,
        pv.toNat, tl⟩, r')
  | _ => none

/-- A GUIDE packet as carried. -/
structure RawGuide where
  service : Nat
  events : List RawEvent
deriving DecidableEq, Repr

/-- A GUIDE body, ignored as a whole where R73 says so. -/
def readGuide (l : List Byte) : Option RawGuide :=
  match l with
  | s1 :: s0 :: k :: r =>
    if beNat [s1, s0] = 0 ∨ 999 < beNat [s1, s0] ∨ 16 < k.toNat then none
    else (readMany readEvent k.toNat r).map fun (es, _) => ⟨beNat [s1, s0], es⟩
  | _ => none

/-- One pair of a GRANT: tier number and expiry day (R93). -/
def readPair (l : List Byte) : Option ((Nat × Nat) × List Byte) :=
  match l with
  | t :: e1 :: e0 :: r => some ((t.toNat, beNat [e1, e0]), r)
  | _ => none

/-- A GRANT body (R93). -/
def readGrant (l : List Byte) : Option (List (Nat × Nat)) :=
  match l with
  | k :: r => if 16 < k.toNat then none else (readMany readPair k.toNat r).map (·.1)
  | _ => none

/-- A REVOKE body (R94). -/
def readRevoke (l : List Byte) : Option (List Nat) :=
  match l with
  | k :: r => if 64 < k.toNat then none else (cut k.toNat r).map fun (ts, _) => ts.map BitVec.toNat
  | _ => none

/-- A CREDIT body, and a GROUP body: one field of two bytes (R95, R181). -/
def readWord (l : List Byte) : Option Nat := (readNat 2 l).map (·.1)

/-- A PURACK body (R109). -/
def readPurack (l : List Byte) : Option Nat := (readNat 4 l).map (·.1)

/-- A UNIT body (R96). -/
def readUnit (l : List Byte) : Option UnitState :=
  match l with
  | b :: _ => if b = 0 then some .active else if b = 1 then some .disconnected else none
  | _ => none

/-- What a taken MASTER packet carries; no digits make the master PIN absent (R140). -/
structure MasterFields where
  level : OverrideLevel
  digits : List Nat
deriving DecidableEq, Repr

def readLevel (b : Byte) : Option OverrideLevel :=
  if b = 0 then some .high else if b = 1 then some .maximum else none

/-- A MASTER body, ignored as a whole where R140 says so. -/
def readMaster (l : List Byte) : Option MasterFields :=
  match l with
  | b :: n :: r =>
    match readLevel b, cut n.toNat r with
    | some lv, some (d, _) =>
      if (1 ≤ n.toNat ∧ n.toNat ≤ 3) ∨ 8 < n.toNat ∨ (d.any (fun x => 9 < x.toNat)) = true then none
      else some ⟨lv, d.map BitVec.toNat⟩
    | _, _ => none
  | _ => none

end Sys2Proof.Machine
end

