-- ==== Sys2Proof/Machine/Serving.lean ====
section
/-! DEFINITION. The request handler's serving of the oldest request (R190, R191), and the taking of a
packet by its owner (R175, R180). -/

namespace Sys2Proof.Machine

/-- What serving a request gives: the state the request leaves, the status and the reply's fields. -/
structure Served where
  state : State
  status : Status
  body : List Byte

/-- A request refused, or answered without a change (R190). -/
def answer (st : Status) (s : State) : Served := ⟨s, st, []⟩

/-- A reply's kind byte: the request's, with bit 7 set (R191). -/
def replyKind (k : Byte) : Byte := k ||| 0x80

/-- A reply joins the transmit list (R191). -/
def State.pushReply (r : Reply) (s : State) : State :=
  { s with cl := { s.cl with transmit := s.cl.transmit ++ [r] } }

/-- The handler may take a request: the load has ended, RESTART has not been served, and the transmit
list has room (R190, R195, R203). -/
def State.handlerReady (s : State) : Bool :=
  s.phase == .running && !s.cl.stopped && decide (s.cl.transmit.length < Config.transmitSize)

/-- The handler takes the oldest request, if its kind is of those given, and serves it at the same
event; where it cannot, nothing happens (R190; log 1). -/
def State.serveIf (isKind : Byte → Bool) (f : List Byte → State → Served) (s : State) : State :=
  if s.handlerReady then
    match s.cl.queue with
    | [] => s
    | r :: rest =>
      if isKind r.kind then
        let t := f r.body { s with cl := { s.cl with queue := rest } }
        t.state.pushReply ⟨replyKind r.kind, r.tag, t.status, t.body⟩
      else s
  else s

/-- Serving of one kind: a body whose length does not fit is answered BAD_LENGTH (R190 step 2). -/
def State.serve {α : Type} (kind : Byte) (read : List Byte → Option α) (f : α → State → Served)
    (s : State) : State :=
  s.serveIf (· == kind) fun body s =>
    match read body with
    | none => answer .badLength s
    | some a => f a s

/-! ### Packets handed to their owners -/

/-- A feed item's byte. -/
def FeedItem.byte? : FeedItem → Option Byte
  | .byte b => some b
  | .gap => none

/-- The first `n` bytes of the candidate at the buffer's oldest end. -/
def HeadendFeed.candidate (h : HeadendFeed) (n : Nat) : List Byte :=
  (h.buffer.take n).filterMap FeedItem.byte?

/-- The candidate's length byte L, its byte 7 (section 9.3). -/
def HeadendFeed.bodyLength (h : HeadendFeed) : Nat := ((h.candidate 8).getD 7 0).toNat

/-- The candidate's kind, its byte 1. -/
def HeadendFeed.kind (h : HeadendFeed) : Byte := (h.candidate 8).getD 1 0

/-- The candidate's body. -/
def HeadendFeed.packetBody (h : HeadendFeed) : List Byte := (h.candidate (8 + h.bodyLength)).drop 8

/-- A resolved packet's 10 + L bytes leave the buffer and the assembler goes to HUNT (R175). -/
def HeadendFeed.dropPacket (h : HeadendFeed) : HeadendFeed :=
  { h with buffer := h.buffer.drop (10 + h.bodyLength), assembler := .hunt }

/-- A packet of the kind waits for its owner (R175, R180). -/
def State.hands (s : State) (kind : Byte) : Bool :=
  s.phase == .running && s.hf.assembler == .handing && s.hf.kind == kind

/-- The owner takes the packet the assembler hands on, and the packet leaves the buffer at the same
event; where none of that kind is handed on, nothing happens (R175, R180; log 1). -/
def State.takePacket (kind : Byte) (f : List Byte → State → State) (s : State) : State :=
  if s.hands kind then f s.hf.packetBody { s with hf := s.hf.dropPacket } else s

end Sys2Proof.Machine
end

