-- ==== Sys2Proof/Machine/Outputs.lean ====
section
/-! DEFINITION. Outputs and channel selection (chapter 3): WAKE, STANDBY, SELECT, STEP, re-resolution
after a commit, QUERY OUTPUT. -/

namespace Sys2Proof.Machine

/-- An output's remembered channel becomes `ch`, and a pass it holds ends (R45, R138). -/
def State.setChannel (o : OutputId) (ch : Option Nat) (s : State) : State :=
  (s.setOutput o { s.ou[o] with channel := ch }).setPass o none

/-- Every output's mode becomes `m` (R44). -/
def State.setModes (m : Mode) (s : State) : State :=
  allOutputs.foldl (fun acc o => acc.setOutput o { acc.ou[o] with mode := m }) s

/-- Every pass ends (R138). -/
def State.endPasses (s : State) : State :=
  { s with pc := { s.pc with passes := Vector.replicate 4 none } }

/-- One output as WAKE takes it: its channel is resolved and allocation called, or the channel cleared
(R46). -/
def State.wakeOutput (o : OutputId) (s : State) : State :=
  match s.ou[o].channel with
  | none => s
  | some ch =>
    match s.cm.committed.resolve ch with
    | none => s.setChannel o none
    | some e => s.allocateOrWait o e

/-- The four outputs wake in ascending number (R46). -/
def State.wakeAll (s : State) : State :=
  allOutputs.foldl (fun acc o => acc.wakeOutput o) (s.setModes .active)

/-- WAKE (R46). -/
def execWake (s : State) : Host.Outcome State Fault Refusal :=
  .next (s.serve 0x10 readNone fun _ s =>
    if s.awake then answer .ok s else answer .accepted (State.finish s allOutputs s.wakeAll))

/-- STANDBY (R47): modes, release all, passes. -/
def State.sleepAll (s : State) : State := ((s.setModes .standby).releaseAll).endPasses

/-- STANDBY (R47). -/
def execStandby (s : State) : Host.Outcome State Fault Refusal :=
  .next (s.serve 0x11 readNone fun _ s =>
    if s.awake then answer .ok (State.finish s allOutputs s.sleepAll) else answer .ok s)

/-- SELECT from R48 step 5 onwards, which STEP shares (R49, R50, R52): the state it leaves and the
status. -/
def State.selectEntry (o : OutputId) (e : MapEntry) (s : State) : State × Status :=
  if s.ou[o].channel = some e.channel then (s, .ok)
  else
    match s.allocate o e.carrier e.slot with
    | none => (s, .noTuner)
    | some s' => (State.finish s [o] (s'.setChannel o (some e.channel)), .accepted)

/-- SELECT after its field checks (R48). -/
def State.selectChannel (o : OutputId) (ch : Nat) (s : State) : Served :=
  if !s.awake then answer .standby s
  else
    match s.cm.committed.resolve ch with
    | none => answer .noChannel s
    | some e => let r := s.selectEntry o e; answer r.2 r.1

/-- SELECT (R48 to R50). -/
def execSelect (s : State) : Host.Outcome State Fault Refusal :=
  .next (s.serve 0x12 (readTwo 1 2) fun f s =>
    if h : f.1 < 4 then
      if 1 ≤ f.2 ∧ f.2 ≤ 999 then s.selectChannel ⟨f.1, h⟩ f.2 else answer .badField s
    else answer .badField s)

/-- STEP's directions (chapter 10, request table). -/
inductive Direction where
  | up | down
deriving DecidableEq, Repr

/-- The direction of a code. -/
def Direction.ofCode : Nat → Option Direction
  | 0 => some .up
  | 1 => some .down
  | _ => none

/-- The next candidate from a channel (R51 step 5). -/
def Direction.next (d : Direction) (m : Lineup) (ch : Nat) : Option MapEntry :=
  match d with
  | .up => m.nextAbove ch
  | .down => m.nextBelow ch

/-- The first candidate (R51 step 3). -/
def Direction.start (d : Direction) (m : Lineup) (ch : Option Nat) : Option MapEntry :=
  match ch, d with
  | some c, d => d.next m c
  | none, .up => m.first
  | none, .down => m.last

/-- A candidate is eligible for an output (R51 step 4). -/
def State.eligible (s : State) (o : OutputId) (e : MapEntry) : Bool :=
  s.pinState == .unset || !(s.boundProfile o).locked.contains e.channel

/-- The walk from a candidate, each committed entry at most once (R51 steps 4 to 6). -/
def walk (ok : MapEntry → Bool) (d : Direction) (m : Lineup) : Nat → Option MapEntry → Option MapEntry
  | _, none => none
  | 0, some _ => none
  | n + 1, some e => if ok e then some e else walk ok d m n (d.next m e.channel)

/-- STEP's target (R51). -/
def State.stepTarget (s : State) (o : OutputId) (d : Direction) : Option MapEntry :=
  let m := s.cm.committed
  walk (s.eligible o) d m m.entries.length (d.start m s.ou[o].channel)

/-- STEP after its field checks (R51, R52): the reply carries the target channel. That the channel is sent
without a presence byte where it is present, and as an empty body where it is absent, is the model's reading of
R52, R191 and R192 (log 9). -/
def State.stepChannel (o : OutputId) (d : Direction) (s : State) : Served :=
  if !s.awake then answer .standby s
  else
    match s.stepTarget o d with
    | none => answer .noChannel s
    | some e => let r := s.selectEntry o e; ⟨r.1, r.2, u16 e.channel⟩

/-- STEP (R51, R52). -/
def execStep (s : State) : Host.Outcome State Fault Refusal :=
  .next (s.serve 0x13 (readTwo 1 1) fun f s =>
    if h : f.1 < 4 then
      match Direction.ofCode f.2 with
      | some d => s.stepChannel ⟨f.1, h⟩ d
      | none => answer .badField s
    else answer .badField s)

/-- QUERY OUTPUT (R58). -/
def execQueryOutput (s : State) : Host.Outcome State Fault Refusal :=
  .next (s.serve 0x14 (readOne 1) fun v s =>
    if h : v < 4 then ⟨s, .ok, outputBody s ⟨v, h⟩⟩ else answer .badField s)

/-! ### Re-resolution after a commit (section 3.5) -/

/-- The classes of R53. -/
inductive CommitClass where
  | unchanged | moved | vanished
deriving DecidableEq, Repr

/-- An output's class against the new map; `none` where the output is not classified (R53). -/
def State.commitClass (s : State) (o : OutputId) : Option CommitClass :=
  if s.isActive o then
    match s.ou[o].channel with
    | none => none
    | some ch =>
      match s.cm.committed.resolve ch with
      | none => some .vanished
      | some e =>
        match s.ou[o].attachment with
        | .tuner t sl =>
          if s.tp.tuners[t].carrier = some e.carrier ∧ sl = e.slot then some .unchanged else some .moved
        | .waiting | .none => some .unchanged
  else none

/-- The outputs of a class, in ascending number. -/
def State.inClass (s : State) (c : CommitClass) : List OutputId :=
  allOutputs.filter fun o => s.commitClass o == some c

/-- R54 step 1: a VANISHED output loses its channel and its pass, and leaves the waiting list. -/
def State.vanish (o : OutputId) (s : State) : State :=
  let s := s.setChannel o none
  if s.ou[o].attachment = .waiting then s.attach o .none else s

/-- R54 step 3: a MOVED output is offered allocation under its channel's new entry. -/
def State.moveOutput (o : OutputId) (s : State) : State :=
  match s.entryOf o with
  | some e => s.allocateOrWait o e
  | none => s

/-- Steps 1 to 4 of R54, the committed map being the new one. -/
def State.reResolve (s : State) : State :=
  let vanished := s.inClass .vanished
  let moved := s.inClass .moved
  let s1 := vanished.foldl (fun acc o => acc.vanish o) s
  let s2 := s1.detachSet (vanished ++ moved)
  let s3 := moved.foldl (fun acc o => acc.moveOutput o) s2
  s3.serveWaiting

end Sys2Proof.Machine
end

