-- ==== Sys2Proof/Machine/ChannelMap.lean ====
section
/-! DEFINITION. The channel map (chapter 1): intake, staging and commit of MAP segments, QUERY MAP. -/

namespace Sys2Proof.Machine

/-- A label as stored: its first 8 characters, each outside 0x20 to 0x7E as 0x3F (R5). -/
def storedLabel (l : List Byte) : List Byte :=
  (l.take 8).map fun c => if 0x20 ≤ c.toNat ∧ c.toNat ≤ 0x7E then c else 0x3F

/-- An access class code with its tier number; none where R5 drops the entry. -/
def accessOf (code tier : Nat) : Option AccessClass :=
  match code with
  | 0 => some .free
  | 1 => if h : tier < 64 then some (.tier ⟨tier, h⟩) else none
  | 2 => some .pay
  | _ => none

/-- An entry at intake, or none where it is dropped (R5). -/
def RawEntry.intake (r : RawEntry) : Option MapEntry :=
  if h : (1 ≤ r.channel ∧ r.channel ≤ 999) ∧ (Config.minCarrier ≤ r.carrier ∧ r.carrier ≤ Config.maxCarrier)
      ∧ r.slot < 4 then
    (accessOf r.classCode r.tier).map fun a =>
      { channel := r.channel, carrier := r.carrier, slot := ⟨r.slot, h.2.2⟩, scrambled := r.scrambled,
        access := a, label := storedLabel r.label }
  else none

/-- A staged entry takes its place in ascending channel order; one of the same channel leaves (R9 step
3). -/
def placeStaged (x : StagedEntry) : List StagedEntry → List StagedEntry
  | [] => [x]
  | y :: ys =>
    if x.entry.channel < y.entry.channel then x :: y :: ys
    else if x.entry.channel = y.entry.channel then x :: ys
    else y :: placeStaged x ys

/-- A segment number joins the received set, kept ascending without duplicates (R9 step 2). -/
def joinReceived (n : Nat) : List Nat → List Nat
  | [] => [n]
  | m :: ms => if n < m then n :: m :: ms else if n = m then m :: ms else m :: joinReceived n ms

/-- Placement of a segment of the collection's own version and count (R9). -/
def Staging.placeSegment (st : Staging) (number : Nat) (entries : List MapEntry) : Staging :=
  let kept := if st.received.contains number then st.entries.filter (fun x => x.segment ≠ number)
    else st.entries
  { st with
    received := joinReceived number st.received
    entries := entries.foldl (fun acc e => placeStaged ⟨e, number⟩ acc) kept }

/-- The collection a segment is placed into: the present one, or a new one of its version and count
(R7, R8). -/
def collectionFor (staging : Option Staging) (version count : Nat) : Staging :=
  match staging with
  | some st =>
    if st.version = version ∧ st.count = count then st
    else { version := version, count := count, received := [], entries := [] }
  | none => { version := version, count := count, received := [], entries := [] }

/-- Every segment number below the count has been received (R10). -/
def Staging.complete (st : Staging) : Bool := (List.range st.count).all fun n => st.received.contains n

/-- The lineup a complete collection commits (R10). -/
def Staging.lineup (st : Staging) : Lineup :=
  { entries := st.entries.map StagedEntry.entry, version := some st.version }

/-- A commit (R10, R54): the new map in force, MAP dirty, MAP_COMMITTED latched, outputs re-resolved,
every ACTIVE output evaluated. -/
def State.commitMap (m : Lineup) (s : State) : State :=
  let s' := (({ s with cm := { committed := m, staging := none } } : State).markDirty .map).latch
    .mapCommitted
  State.finish s s.activeOutputs s'.reResolve

/-- CM takes a segment that R4 has accepted (R6 to R10). -/
def State.takeSegment (g : RawSegment) (s : State) : State :=
  if s.cm.committed.version = some g.version then s
  else
    let st := (collectionFor s.cm.staging g.version g.count).placeSegment g.number
      (g.entries.filterMap RawEntry.intake)
    if st.complete then s.commitMap st.lineup
    else { s with cm := { s.cm with staging := some st } }

/-- MAP (R4 to R10). -/
def execMap (s : State) : Host.Outcome State Fault Refusal :=
  .next (s.takePacket 0x20 fun body s =>
    match readSegment body with
    | none => s
    | some g => s.takeSegment g)

/-- QUERY MAP (R14). -/
def execQueryMap (s : State) : Host.Outcome State Fault Refusal :=
  .next (s.serve 0x20 (readTwo 2 1) fun f s =>
    if 1 ≤ f.1 ∧ f.1 ≤ 999 ∧ 1 ≤ f.2 then ⟨s, .ok, mapPage s.cm.committed f.1 f.2⟩
    else answer .badField s)

end Sys2Proof.Machine
end

