-- ==== Sys2Proof/Machine/Reset.lean ====
section
/-! DEFINITION. The three reset kinds, the RESET line and the supply (R195, R196, R211, and the reset
section of each chapter). -/

namespace Sys2Proof.Machine

/-- Every block in its power-on state but the time base, which is given, and the store's records, which
no reset touches (R212); the load begins (R206). The pins, the FSTB level and the waiting commands are
the outside's and stay. -/
def State.freshBlocks (cause : ResetCause) (tb : TimeBase) (s : State) : State :=
  { State.reset with
    cl := { State.reset.cl with cause := cause }
    hf := { State.reset.hf with fstbHigh := s.hf.fstbHigh }
    tb := tb
    ss := { records := s.ss.records, dirty := [], engine := none }
    pins := s.pins
    pending := s.pending }

/-- Every gate off and a route word of none loaded to each output's switch (R59, R165, R196). -/
def State.darken (s : State) : State := allOutputs.foldl (fun acc o => acc.loadRoute o none) s

/-- The state right after a reset (R42, R59, R68, R89, R165, R185, R203, R212). -/
def State.resetAll (cause : ResetCause) (tb : TimeBase) (s : State) : State :=
  (s.freshBlocks cause tb).darken

/-- The time base after power-on and the RESET line (R68). -/
def TimeBase.initial : TimeBase := { localSeconds := 0, clock := none }

/-- A restart: the time base keeps its time and counts on (R195, R68). -/
def State.restartPart (s : State) : State := s.resetAll .restart s.tb

/-- POWER_ON (R196): a release of the RESET line with the cause POWER_ON. -/
def execPowerOn (s : State) : Host.Outcome State Fault Refusal :=
  .next (s.resetAll .powerOn .initial)

/-- POWER_LOSS (R211): a write in progress is abandoned and the records keep what their last completed
writes stored. Nothing volatile outlives the supply, and no pin is driven; what the pins did before the loss ends with
it (log 14). -/
def State.losePower (s : State) : State :=
  { s.freshBlocks .powerOn .initial with
    phase := .off
    pins := { picture := Vector.replicate 4 false, descramble := Vector.replicate 4 false, wave := [] } }

def execPowerLoss (s : State) : Host.Outcome State Fault Refusal :=
  .next (if s.phase = .off then s else s.losePower)

/-- A reply being transmitted is cut off after some of its levels (R196; log 24). -/
def State.cutReply (s : State) : State :=
  match s.transmitting with
  | none => s
  | some r => s.emit (.replyCut r.frame (Config.levelsSent s.pins.wave.length))

/-- RESET_LINE_ASSERT (R196): the reply on LTXD is cut off, timers stop, a write in progress is abandoned
(R211), the dirty set is emptied (R212), the gates go off and route words of none are loaded. LTXD at rest,
FACK high and ATTN inactive follow from the phase. The list of replies is emptied at the release. -/
def State.assertReset (s : State) : State :=
  ({ s.cutReply with phase := .held
                     hf := { s.hf with handshake := false, silence := false }
                     ss := { s.ss with dirty := [], engine := none } } : State).darken

def execResetLineAssert (s : State) : Host.Outcome State Fault Refusal :=
  .next (match s.phase with
    | .loading | .running => s.assertReset
    | .off | .held => s)

/-- RESET_LINE_RELEASE (R196). -/
def execResetLineRelease (s : State) : Host.Outcome State Fault Refusal :=
  .next (if s.phase = .held then s.resetAll .resetLine .initial else s)

end Sys2Proof.Machine
end

