-- ==== Sys2Proof/Machine/ControlLink.lean ====
section
/-! DEFINITION. The control link (chapter 10): frame parser, request queue, replies, IDENT, STATUS,
RESTART, MASK and TAKE. -/

namespace Sys2Proof.Machine

/-- The link works in the load period and after it (R196, R203). -/
def State.linkAlive (s : State) : Bool := s.phase == .loading || s.phase == .running

/-- What a byte makes of the parser, with the frame it completes (R187, R188). -/
def Parser.feed (p : Parser) (b : Byte) : Parser × Option Request :=
  match p with
  | .idle => if b = Config.frameStart then (.length, none) else (.idle, none)
  | .length => if b.toNat ≤ Config.maxBody then (.kind b.toNat, none) else (.idle, none)
  | .kind len => (.tag len b, none)
  | .tag len k => if len = 0 then (.idle, some ⟨k, b, []⟩) else (.body len k b [], none)
  | .body len k t got =>
    if len ≤ got.length + 1 then (.idle, some ⟨k, t, got ++ [b]⟩) else (.body len k t (got ++ [b]), none)

/-- A completed frame is queued, answered BUSY, or discarded (R189). -/
def ControlLink.completeFrame (c : ControlLink) (loading : Bool) (r : Request) : ControlLink :=
  if loading || decide (Config.queueSize ≤ c.queue.length) then
    if c.transmit.length < Config.transmitSize then
      { c with transmit := c.transmit ++ [⟨replyKind r.kind, r.tag, .busy, []⟩] }
    else c
  else { c with queue := c.queue ++ [r] }

/-- The link takes one character time on LRXD: a byte (R187), or a framing error, which discards a
partial frame (R188). -/
def ControlLink.receive (c : ControlLink) (loading : Bool) : Character → ControlLink
  | .framingError => { c with parser := .idle }
  | .byte b =>
    match c.parser.feed b with
    | (p, none) => { c with parser := p }
    | (p, some r) => ({ c with parser := p } : ControlLink).completeFrame loading r

/-- CHARACTER_RECEIVED (R187 to R189). -/
def execCharacterReceived (ch : Character) (s : State) : Host.Outcome State Fault Refusal :=
  .next (if s.linkAlive then { s with cl := s.cl.receive (s.phase == .loading) ch } else s)

/-- GAP_TIMER_EXPIRY (R188): the timer runs only outside IDLE. -/
def execGapTimerExpiry (s : State) : Host.Outcome State Fault Refusal :=
  .next (if s.linkAlive then { s with cl := { s.cl with parser := .idle } } else s)

/-- RESTART's own reply: the only one of its kind with status OK, and only once RESTART has been served
(R195). -/
def ControlLink.isRestartReply (c : ControlLink) (r : Reply) : Bool :=
  c.stopped && r.kind == 0x83 && r.status == .ok

/-- The oldest reply has been sent and leaves the list (R191); after RESTART's own, the restart takes
place (R195). -/
def State.replySent (s : State) : State :=
  match s.cl.transmit with
  | [] => s
  | r :: rest =>
    let s' := ({ s with cl := { s.cl with transmit := rest } } : State).emit (.reply r.frame)
    if s.cl.isRestartReply r then s'.restartPart else s'

/-- REPLY_SENT (R191, R195). -/
def execReplySent (s : State) : Host.Outcome State Fault Refusal :=
  .next (if s.linkAlive then s.replySent else s)

/-- UNKNOWN_REQUEST (R190 step 1). -/
def execUnknownRequest (s : State) : Host.Outcome State Fault Refusal :=
  .next (s.serveIf (fun k => !requestKinds.contains k) fun _ s => answer .unknown s)

/-- IDENT (R193). -/
def execIdent (s : State) : Host.Outcome State Fault Refusal :=
  .next (s.serve 0x01 readNone fun _ s => ⟨s, .ok, identBody s⟩)

/-- STATUS (R194). -/
def execStatus (s : State) : Host.Outcome State Fault Refusal :=
  .next (s.serve 0x02 readNone fun _ s => ⟨s, .ok, statusBody s⟩)

/-- RESTART (R195): the handler stops; the restart waits for the reply to be sent. -/
def execRestart (s : State) : Host.Outcome State Fault Refusal :=
  .next (s.serve 0x03 readNone fun _ s => answer .ok { s with cl := { s.cl with stopped := true } })

/-- MASK (R198): bits 12 to 15 are disregarded. -/
def execMask (s : State) : Host.Outcome State Fault Refusal :=
  .next (s.serve 0x04 (readOne 2) fun v s =>
    answer .ok { s with cl := { s.cl with mask := BitVec.ofNat 12 v } })

/-- TAKE (R200): the reply and the clearing. -/
def State.takeNotice (s : State) : Served :=
  match s.cl.firstNotice with
  | none => ⟨s, .ok, u8 0xFF ++ u8 0 ++ flag false⟩
  | some n =>
    let s' : State := { s with cl := s.cl.clearLatch n }
    ⟨s', .ok, u8 n.kind ++ u8 n.subject ++ flag s'.cl.pendingNotice ++ snapshot s n⟩

/-- TAKE (R200). -/
def execTake (s : State) : Host.Outcome State Fault Refusal :=
  .next (s.serve 0x05 readNone fun _ s => s.takeNotice)

end Sys2Proof.Machine
end

