-- ==== Sys2Proof/Machine/ParentalControl.lean ====
section
/-! DEFINITION. Parental profiles and PIN protection (chapter 7): the judging of a PIN, the PIN, profile
and binding requests, passes, MASTER and PINRESET. -/

namespace Sys2Proof.Machine

/-- How PC judges a PIN field in ARMED (R125). -/
inductive Verdict where
  | wrong | asPin | asMaster
deriving DecidableEq, Repr

/-- The master PIN is present, equals the field, and its level admits it for the request (R125). -/
def PinRecord.admitsMaster (r : PinRecord) (forClear : Bool) (digits : List Nat) : Bool :=
  r.master == some digits && (r.level == .high || forClear)

/-- The judgement of a PIN field, absent when it has no digits (R125). A field that equals both the PIN
and an admitted master PIN is taken as the master PIN, as R130 says of PIN CLEAR. -/
def PinRecord.judge (r : PinRecord) (forClear : Bool) (digits : List Nat) : Verdict :=
  if digits = [] then .wrong
  else if r.admitsMaster forClear digits then .asMaster
  else if r.pin = some digits then .asPin
  else .wrong

/-- The PIN record becomes `r` and is marked dirty where that changes it (R124). -/
def State.setPinRecord (r : PinRecord) (s : State) : State :=
  let s' : State := { s with pc := { s.pc with record := r } }
  if r = s.pc.record then s' else s'.markDirty .pin

/-- An accepted PIN: the attempt counter becomes 0 (R126). -/
def State.acceptPin (s : State) : State := s.setPinRecord { s.pc.record with attempts := 0 }

/-- A wrong PIN, which the fifth time starts a lockout (R126). -/
def State.countWrong (s : State) : State :=
  let r := s.pc.record
  if Config.maxAttempts ≤ r.attempts + 1 then
    ((s.setPinRecord { r with attempts := r.attempts + 1, lockout := Config.lockoutMinutes }).latch
      .pinLockout).report s.activeOutputs
  else (s.setPinRecord { r with attempts := r.attempts + 1 }).report []

/-- The PIN check of PROFILE SET and BIND, which UNSET passes (R128, R132, R133): the state to go on
from, or the refusal. -/
def State.pinCheck (digits : List Nat) (s : State) : Except Served State :=
  match s.pinState with
  | .unset => .ok s
  | .lockedOut => .error (answer .lockedOut s)
  | .armed =>
    match s.pc.record.judge false digits with
    | .wrong => .error (answer .wrongPin s.countWrong)
    | .asPin | .asMaster => .ok s.acceptPin

/-- A household PIN has exactly 4 digits from 0 to 9 (R129). -/
def newPinOk (d : List Nat) : Bool := d.length == 4 && d.all (· ≤ 9)

/-- PIN SET after its checks of form and frozen flag (R129; log 11). -/
def State.setPin (f : PinSetFields) (s : State) : Served :=
  let set (s : State) : State :=
    s.setPinRecord { s.pc.record with pin := some f.new, attempts := 0 }
  match s.pinState with
  | .unset => answer .ok ((set s).report s.activeOutputs)
  | .lockedOut => answer .lockedOut s
  | .armed =>
    match s.pc.record.judge false f.current with
    | .wrong => answer .wrongPin s.countWrong
    | .asPin | .asMaster => answer .ok ((set s).report [])

/-- PIN SET (R128, R129). -/
def execPinSet (s : State) : Host.Outcome State Fault Refusal :=
  .next (s.serve 0x40 readPinSet fun f s =>
    if newPinOk f.new && pinFormOk f.current then
      if s.pc.frozen then answer .frozen s else s.setPin f
    else answer .badField s)

/-- The PIN becomes absent and the counter 0, every pass ends, PIN is marked dirty (R130). -/
def State.clearPin (s : State) : State :=
  (({ s with pc := { s.pc with record := { s.pc.record with pin := none, attempts := 0 } } } :
    State).markDirty .pin).endPasses

/-- A master clear at MAXIMUM (R131). -/
def State.masterClear (s : State) : State :=
  let s := s.clearPin
  let s : State := { s with
    pc := { s.pc with profiles := Vector.replicate 4 .initial, bindings := initialBindings } }
  ([.profile 0, .profile 1, .profile 2, .profile 3, .bindings] : List RecordId).foldl
    (fun acc r => acc.markDirty r) s

/-- PIN CLEAR after its checks of form and frozen flag (R130). -/
def State.pinClear (digits : List Nat) (s : State) : Served :=
  match s.pinState with
  | .unset => answer .noPin s
  | .lockedOut => answer .lockedOut s
  | .armed =>
    match s.pc.record.judge true digits with
    | .wrong => answer .wrongPin s.countWrong
    | .asPin => answer .ok (s.clearPin.report s.activeOutputs)
    | .asMaster =>
      match s.pc.record.level with
      | .high => answer .ok (s.clearPin.report s.activeOutputs)
      | .maximum => answer .ok (s.masterClear.report s.activeOutputs)

/-- PIN CLEAR (R128, R130, R131). -/
def execPinClear (s : State) : Host.Outcome State Fault Refusal :=
  .next (s.serve 0x41 readPinClear fun d s =>
    if pinFormOk d then
      if s.pc.frozen then answer .frozen s else s.pinClear d
    else answer .badField s)

/-- PIN ENTER's scopes (chapter 10, request table). -/
inductive Scope where
  | event | channel
deriving DecidableEq, Repr

/-- The scope of a code. -/
def Scope.ofCode : Nat → Option Scope
  | 0 => some .event
  | 1 => some .channel
  | _ => none

/-- A decision is BLOCKED_PARENTAL. -/
def Decision.isParental : Decision → Bool
  | .blockedParental _ => true
  | _ => false

/-- The pass a scope gives an output; none where R136 check 3 refuses. -/
def State.passFor (s : State) (o : OutputId) (sc : Scope) : Option Pass :=
  match s.ou[o].channel with
  | none => none
  | some ch =>
    match sc with
    | .channel => some (.channel ch Config.passMinutes)
    | .event => (s.current ch).map fun e => .event ch e.eventId

/-- PIN ENTER after its field checks (R136). -/
def State.pinEnter (o : OutputId) (sc : Scope) (digits : List Nat) (s : State) : Served :=
  if !s.awake then answer .standby s
  else if !s.ae[o].decision.isParental then answer .notBlocked s
  else
    match s.passFor o sc with
    | none => answer .noEvent s
    | some p =>
      match s.pinState with
      | .lockedOut => answer .lockedOut s
      | .unset | .armed =>
        match s.pc.record.judge false digits with
        | .wrong => answer .wrongPin s.countWrong
        | .asPin | .asMaster => answer .ok ((s.acceptPin.setPass o (some p)).report [o])

/-- PIN ENTER (R136). -/
def execPinEnter (s : State) : Host.Outcome State Fault Refusal :=
  .next (s.serve 0x42 readTwoAndPin fun f s =>
    if h : f.first < 4 then
      match Scope.ofCode f.second with
      | some sc => if pinFormOk f.pin then s.pinEnter ⟨f.first, h⟩ sc f.pin else answer .badField s
      | none => answer .badField s
    else answer .badField s)

/-- FREEZE (R134). -/
def execFreeze (s : State) : Host.Outcome State Fault Refusal :=
  .next (s.serve 0x43 readNone fun _ s => answer .ok { s with pc := { s.pc with frozen := true } })

/-- A channel joins a locked list, ascending without duplicates (R132). -/
def joinLocked (n : Nat) : List Nat → List Nat
  | [] => [n]
  | m :: ms => if n < m then n :: m :: ms else if n = m then m :: ms else m :: joinLocked n ms

/-- A locked list as PC holds it: sorted, repeats merged (R132). -/
def lockedList (l : List Nat) : List Nat := l.foldl (fun acc n => joinLocked n acc) []

/-- The field checks of PROFILE SET (R132), the profile number and the PIN field apart. -/
def ProfileSetFields.formOk (f : ProfileSetFields) : Bool :=
  decide (f.ceiling ≤ 6) && decide (f.unrated ≤ 1) && decide (f.purchase ≤ 1) &&
    decide (f.windowPresent ≤ 1) && decide (f.content < 16) &&
    (f.windowPresent == 0 ||
      (decide (f.opens ≤ 1439) && decide (f.closes ≤ 1439) && f.opens != f.closes)) &&
    decide (f.locked.length ≤ 16) && f.locked.all fun c => decide (1 ≤ c) && decide (c ≤ 999)

/-- The profile PROFILE SET gives (R132). -/
def ProfileSetFields.toProfile (f : ProfileSetFields) : Profile :=
  { ceiling := f.ceiling
    blockUnrated := f.unrated == 1
    blocked := BitVec.ofNat 4 f.content
    purchasePin := f.purchase == 1
    window := if f.windowPresent = 1 then some ⟨f.opens, f.closes⟩ else none
    locked := lockedList f.locked }

/-- The ACTIVE outputs bound to a profile (R142). -/
def State.boundOutputs (s : State) (p : ProfileId) : List OutputId :=
  s.activeOutputs.filter fun o => s.pc.bindings[o] == p

/-- A profile is replaced whole (R132). -/
def State.setProfile (p : ProfileId) (v : Profile) (s : State) : State :=
  (({ s with pc := { s.pc with profiles := s.pc.profiles.set p v } } : State).markDirty
    (.profile p)).report (s.boundOutputs p)

/-- PROFILE SET (R128, R132). -/
def execProfileSet (s : State) : Host.Outcome State Fault Refusal :=
  .next (s.serve 0x44 readProfileSet fun f s =>
    if h : f.profile < 4 then
      if f.formOk && pinFormOk f.pin then
        if s.pc.frozen then answer .frozen s
        else
          match s.pinCheck f.pin with
          | .error r => r
          | .ok s => answer .ok (s.setProfile ⟨f.profile, h⟩ f.toProfile)
      else answer .badField s
    else answer .badField s)

/-- QUERY PROFILE (R135). -/
def execQueryProfile (s : State) : Host.Outcome State Fault Refusal :=
  .next (s.serve 0x45 (readOne 1) fun v s =>
    if h : v < 4 then ⟨s, .ok, profileBody s ⟨v, h⟩⟩ else answer .badField s)

/-- An output is bound to a profile (R133). -/
def State.bindOutput (o : OutputId) (p : ProfileId) (s : State) : State :=
  if s.pc.bindings[o] = p then s.report []
  else
    (({ s with pc := { s.pc with bindings := s.pc.bindings.set o p } } : State).markDirty
      .bindings).report (if s.isActive o then [o] else [])

/-- BIND (R128, R133). -/
def execBind (s : State) : Host.Outcome State Fault Refusal :=
  .next (s.serve 0x46 readTwoAndPin fun f s =>
    if h : f.first < 4 ∧ f.second < 4 then
      if pinFormOk f.pin then
        if s.pc.frozen then answer .frozen s
        else
          match s.pinCheck f.pin with
          | .error r => r
          | .ok s => answer .ok (s.bindOutput ⟨f.first, h.1⟩ ⟨f.second, h.2⟩)
      else answer .badField s
    else answer .badField s)

/-- MASTER (R140): PIN is marked dirty even where nothing changes. -/
def execMaster (s : State) : Host.Outcome State Fault Refusal :=
  .next (s.takePacket 0x50 fun body s =>
    match readMaster body with
    | none => s
    | some f =>
      (({ s with pc := { s.pc with record := { s.pc.record with
            level := f.level, master := if f.digits = [] then none else some f.digits } } } :
        State).markDirty .pin).startWrite)

/-- A PINRESET (R141). -/
def State.pinReset (s : State) : State :=
  let r := { s.pc.record with pin := none, attempts := 0, lockout := 0 }
  ((s.setPinRecord r).endPasses).report (if r = s.pc.record then [] else s.activeOutputs)

/-- PINRESET (R141). -/
def execPinreset (s : State) : Host.Outcome State Fault Refusal :=
  .next (s.takePacket 0x51 fun _ s => s.pinReset)

/-! ### The minute event at PC -/

/-- One minute of a lockout (R127). -/
def PinRecord.minute (r : PinRecord) : PinRecord :=
  if r.lockout = 0 then r
  else { r with lockout := r.lockout - 1, attempts := if r.lockout = 1 then 0 else r.attempts }

/-- One minute of a pass; none where it ends (R139). -/
def Pass.minute : Pass → Option Pass
  | .event service eventId => some (.event service eventId)
  | .channel service left => if left ≤ 1 then none else some (.channel service (left - 1))

/-- PC's part of a minute event (R127, R139). -/
def State.parentalMinute (s : State) : State :=
  let s := s.setPinRecord s.pc.record.minute
  { s with pc := { s.pc with passes := s.pc.passes.map fun p => p.bind Pass.minute } }

end Sys2Proof.Machine
end

