-- ==== Sys2Proof/Machine/Entitlements.lean ====
section
/-! DEFINITION. Entitlements, credit and purchases (chapter 6): GRANT, REVOKE, CREDIT, UNIT, BUY, PURACK,
the completion of a purchase, the queries. -/

namespace Sys2Proof.Machine

/-- The effects of a taken entitlement packet, in the order of R92. -/
def State.takeEntitlements (e : Entitlements) (s : State) : State :=
  ((({ s with ep := { s.ep with ent := e } } : State).markDirty .entitlements).latch
    .entitlement).report s.activeOutputs

/-- One pair of a GRANT; a tier number above 63 is skipped (R93). -/
def Entitlements.grant (e : Entitlements) (p : Nat × Nat) : Entitlements :=
  if h : p.1 < 64 then { e with tiers := e.tiers.set p.1 { held := true, expiry := p.2 } } else e

/-- One tier number of a REVOKE; one above 63 is skipped (R94). -/
def Entitlements.revoke (e : Entitlements) (t : Nat) : Entitlements :=
  if h : t < 64 then { e with tiers := e.tiers.set t { held := false, expiry := 0 } } else e

/-- GRANT (R92, R93). -/
def execGrant (s : State) : Host.Outcome State Fault Refusal :=
  .next (s.takePacket 0x40 fun body s =>
    match readGrant body with
    | none => s
    | some ps => s.takeEntitlements (ps.foldl Entitlements.grant s.ep.ent))

/-- REVOKE (R92, R94). -/
def execRevoke (s : State) : Host.Outcome State Fault Refusal :=
  .next (s.takePacket 0x41 fun body s =>
    match readRevoke body with
    | none => s
    | some ts => s.takeEntitlements (ts.foldl Entitlements.revoke s.ep.ent))

/-- CREDIT (R92, R95). -/
def execCredit (s : State) : Host.Outcome State Fault Refusal :=
  .next (s.takePacket 0x42 fun body s =>
    match readWord body with
    | none => s
    | some n => s.takeEntitlements { s.ep.ent with limit := n })

/-- UNIT (R92, R96). -/
def execUnit (s : State) : Host.Outcome State Fault Refusal :=
  .next (s.takePacket 0x44 fun body s =>
    match readUnit body with
    | none => s
    | some u => s.takeEntitlements { s.ep.ent with unitState := u })

/-! ### BUY (section 6.4) -/

/-- Checks 7 to 9 of R101, on the current programme. -/
def State.buyProgramme (s : State) (o : OutputId) (service n : Nat) (e : GuideEvent) :
    Except Status (Nat × Nat × GuideEvent) :=
  if e.price = 0 then .error .notPay
  else if s.ae[o].decision.isParental then .error .parental
  else
    match s.ep.recordFor service e.eventId with
    | some _ => .error .already
    | none => .ok (service, n, e)

/-- Checks 2 to 9 of R101: service, now and programme, or the refusal. -/
def State.buyChecks (s : State) (o : OutputId) : Except Status (Nat × Nat × GuideEvent) :=
  match s.entryOf o with
  | none => .error .noChannel
  | some x =>
    if x.access ≠ .pay then .error .notPay
    else if s.ep.ent.unitState = .disconnected then .error .disconnected
    else
      match s.now, s.current x.channel with
      | none, _ => .error .noTime
      | some _, none => .error .noEvent
      | some n, some e => s.buyProgramme o x.channel n e

/-- Check 10 (R102). -/
def State.buyPin (s : State) (o : OutputId) (digits : List Nat) : Except Served State :=
  if (s.boundProfile o).purchasePin then s.pinCheck digits else .ok s

/-- The lowest-numbered slot that holds no record (R98). -/
def Purchasing.freeSlot (e : Purchasing) : SlotId :=
  ((List.finRange 32).find? fun k => (e.inSlot k).isNone).getD 0

/-- The record an accepted BUY appends (R104 step 1). -/
def Purchasing.newRecord (p : Purchasing) (service n : Nat) (e : GuideEvent) : Purchase :=
  { seq := p.seq.next, service := service, eventId := e.eventId, start := e.start, finish := e.finish,
    price := e.price, minute := n, state := .pending, slot := p.freeSlot }

/-- An accepted BUY (R104). -/
def State.acceptBuy (service n : Nat) (e : GuideEvent) (s : State) : State :=
  let p := s.ep.newRecord service n e
  let log := s.ep.log ++ [p]
  let s' := (({ s with ep := { s.ep with log := log, seq := { s.ep.seq with next := s.ep.seq.next + 1 } } } :
    State).markDirty (.slot p.slot)).markDirty .sequence
  let s'' := if log.length = Config.logNearFull then s'.latch .logNearFull else s'
  s''.report (s.outputsOn service)

/-- Checks 11 and 12 and the acceptance (R103, R104). -/
def State.buyRoom (service n : Nat) (e : GuideEvent) (s : State) : Served :=
  if Config.logSize ≤ s.ep.log.length ∨ s.ep.seq.next = Config.lastSequence then
    answer .logFull (s.report [])
  else if s.ep.ent.limit < s.ep.creditUsed + e.price then answer .noCredit (s.report [])
  else
    let s' := s.acceptBuy service n e
    ⟨s', .accepted, u32 s.ep.seq.next ++ u16 s'.ep.creditUsed⟩

/-- BUY after its field checks (R101 to R104). -/
def State.buy (o : OutputId) (digits : List Nat) (s : State) : Served :=
  if !s.awake then answer .standby s
  else
    match s.buyChecks o with
    | .error st => answer st s
    | .ok (service, n, e) =>
      match s.buyPin o digits with
      | .error r => r
      | .ok s => s.buyRoom service n e

/-- BUY (R100 to R104). -/
def execBuy (s : State) : Host.Outcome State Fault Refusal :=
  .next (s.serve 0x30 readBuy fun f s =>
    if h : f.output < 4 then
      if pinFormOk f.pin then s.buy ⟨f.output, h⟩ f.pin else answer .badField s
    else answer .badField s)

/-! ### Acknowledgement, removal and completion -/

/-- A purchase's copied end is at or before now; never while time is unknown (R109, R111). -/
def Purchase.ended (p : Purchase) (now : Option Nat) : Bool :=
  match now with
  | none => false
  | some n => decide (p.finish ≤ n)

/-- A PURACK through `n` acts on the record (R109 steps 1 to 3). -/
def Purchase.ackedBy (p : Purchase) (n : Nat) : Bool := p.state == .opened && decide (p.seq ≤ n)

/-- What a PURACK makes of a record: removed, REPORTED, or as it is (R109 steps 1 to 3). -/
def Purchase.acknowledge (n : Nat) (now : Option Nat) (p : Purchase) : Option Purchase :=
  if p.ackedBy n then
    if p.ended now then none else some { p with state := .reported }
  else some p

/-- Each record's slot is marked dirty. -/
def State.markSlots (ps : List Purchase) (s : State) : State :=
  ps.foldl (fun acc p => acc.markDirty (.slot p.slot)) s

/-- A taken PURACK (R109). -/
def State.takePurack (n : Nat) (s : State) : State :=
  let changed := s.ep.log.filter fun p => p.ackedBy n
  let acked := max s.ep.seq.acked (min n (s.ep.seq.next - 1))
  let s1 := ({ s with ep := { s.ep with
      log := s.ep.log.filterMap (Purchase.acknowledge n s.now)
      seq := { s.ep.seq with acked := acked } } } : State).markSlots changed
  let s2 := if s.ep.seq.acked < acked then s1.markDirty .sequence else s1
  if changed.isEmpty then s2.report []
  else (s2.latch .entitlement).report (changed.flatMap fun p => s.outputsOn p.service)

/-- PURACK (R109). -/
def execPurack (s : State) : Host.Outcome State Fault Refusal :=
  .next (s.takePacket 0x43 fun body s =>
    match readPurack body with
    | none => s
    | some n => s.takePurack n)

/-- A minute event removes the record (R111). -/
def Purchase.removable (p : Purchase) (now : Option Nat) : Bool := p.state == .reported && p.ended now

/-- EP's part of a minute event (R111). -/
def State.purchaseMinute (s : State) : State :=
  let gone := s.ep.log.filter fun p => p.removable s.now
  ({ s with ep := { s.ep with log := s.ep.log.filter fun p => !p.removable s.now } } : State).markSlots gone

/-- A purchase completes at the end of the write that carried it (R107). -/
def State.completePurchase (k : SlotId) (carried : Option Purchase) (s : State) : State :=
  match carried, s.ep.inSlot k with
  | some c, some p =>
    if p.state = .pending ∧ p.seq = c.seq then
      (({ s with ep := { s.ep with
          log := s.ep.log.map fun q => if q = p then { q with state := .opened } else q
          lastCompleted := some p.seq } } : State).latch .purchaseDone).report (s.outputsOn p.service)
    else s.report []
  | _, _ => s.report []

/-! ### Queries -/

/-- QUERY PURCHASES (R115). -/
def execQueryPurchases (s : State) : Host.Outcome State Fault Refusal :=
  .next (s.serve 0x31 (readTwo 4 1) fun f s =>
    if 1 ≤ f.1 ∧ 1 ≤ f.2 then ⟨s, .ok, purchasePage s.ep f.1 f.2⟩ else answer .badField s)

/-- QUERY TIERS (R116). -/
def execQueryTiers (s : State) : Host.Outcome State Fault Refusal :=
  .next (s.serve 0x32 readNone fun _ s => ⟨s, .ok, tiersBody s⟩)

end Sys2Proof.Machine
end

