-- ==== Sys2Proof/Machine/Feed.lean ====
section
/-! DEFINITION. The headend feed (chapter 9): the port and its handshakes, the buffer, the packet
assembler, the CRC, the address filter, the silence timer, FEED SETUP and GROUP. -/

namespace Sys2Proof.Machine

/-! ### The port (section 9.1) -/

/-- FSTB stands at its active level (R166). -/
def HeadendFeed.fstbActive (h : HeadendFeed) : Bool :=
  match h.setup.fstb with
  | .activeHigh => h.fstbHigh
  | .activeLow => !h.fstbHigh

/-- FSTB goes to its active or inactive level (R166). -/
def HeadendFeed.driveFstb (h : HeadendFeed) (active : Bool) : HeadendFeed :=
  { h with fstbHigh := match h.setup.fstb with
      | .activeHigh => active
      | .activeLow => !active }

/-- The buffer has room for a byte (R167, R168). -/
def HeadendFeed.hasRoom (h : HeadendFeed) : Bool := decide (h.byteCount < Config.feedBuffer)

/-- FACK is active on an open port (R167, R168, R169, R182): never in STROBE; otherwise with room and
FSTB inactive, but for an edge that meets it held by a FEED SETUP (log 6). A strobe's byte is taken
while FSTB is active or at its end, so an inactive FSTB says that no byte of the present strobe has
been taken. -/
def HeadendFeed.fackActive (h : HeadendFeed) : Bool :=
  h.setup.mode != .strobe && h.hasRoom && !h.fstbActive && !h.fackHeld

/-- The level of FACK: high while the port is closed (R184, R196). High without supply too is the model's choice
(log 14). -/
def State.fackHigh (s : State) : Bool :=
  match s.phase with
  | .running =>
    match s.hf.setup.fack with
    | .activeHigh => s.hf.fackActive
    | .activeLow => !s.hf.fackActive
  | .off | .held | .loading => true

/-- A byte joins the buffer as its newest (R172). -/
def HeadendFeed.join (h : HeadendFeed) (b : Byte) : HeadendFeed := { h with buffer := h.buffer ++ [.byte b] }

/-- A gap mark after the newest byte, unless one is there (R172). -/
def HeadendFeed.markGap (h : HeadendFeed) : HeadendFeed :=
  if h.buffer.getLast? = some .gap then h else { h with buffer := h.buffer ++ [.gap] }

/-- A port fault: the last fault kind is set and FEED_FAULT latched (R183). -/
def State.portFault (f : FeedFault) (h : HeadendFeed) (s : State) : State :=
  ({ s with hf := { h with lastFault := some f } } : State).latch .feedFault

/-- An active edge on an open port, `h` being HF with FSTB at its new level and `admitted` whether FACK
was active at the edge (R167, R168 step 2, R169 step 2, R171). -/
def State.edge (fd : Byte) (admitted : Bool) (h : HeadendFeed) (s : State) : State :=
  match h.setup.mode with
  | .strobe =>
    if h.hasRoom then { s with hf := h.join fd } else s.portFault .overrun h.markGap
  | .leading =>
    if admitted then { s with hf := { h.join fd with handshake := true } }
    else s.portFault .outOfTurn h.markGap
  | .trailing =>
    if admitted then { s with hf := { h with handshake := true } }
    else s.portFault .outOfTurn h.markGap

/-- FSTB_ACTIVE_EDGE with the byte on FD0 to FD7. An edge is a change of level (R166); a closed port
takes nothing (R184). -/
def execFstbActiveEdge (fd : Byte) (s : State) : Host.Outcome State Fault Refusal :=
  .next (if s.hf.fstbActive then s
    else
      let h := { s.hf.driveFstb true with fackHeld := false }
      if s.phase = .running then s.edge fd s.hf.fackActive h else { s with hf := h })

/-- FSTB_RELEASE with the byte on FD0 to FD7: the handshake timer stops, and TRAILING takes the byte of
an admitted strobe that has not timed out (R168 step 3, R169 step 3, R170, R171). -/
def execFstbRelease (fd : Byte) (s : State) : Host.Outcome State Fault Refusal :=
  .next (if s.hf.fstbActive then
      let h := { s.hf.driveFstb false with handshake := false, fackHeld := false }
      if s.phase = .running ∧ s.hf.setup.mode = .trailing ∧ s.hf.handshake = true then
        { s with hf := h.join fd }
      else { s with hf := h }
    else s)

/-- HANDSHAKE_TIMEOUT (R170): only while the timer runs. -/
def execHandshakeTimeout (s : State) : Host.Outcome State Fault Refusal :=
  .next (if s.phase = .running ∧ s.hf.handshake = true then
      let h := { s.hf with handshake := false }
      match s.hf.setup.mode with
      | .trailing => s.portFault .timeout h.markGap
      | .leading | .strobe => s.portFault .timeout h
    else s)

/-! ### The CRC and the address filter (sections 9.3 and 9.6) -/

/-- Eight shifts of the CRC register, `n` left (section 9.3, CRC table). -/
def crcShift : Nat → BitVec 16 → BitVec 16
  | 0, r => r
  | n + 1, r => crcShift n (if r.getLsbD 15 then (r <<< 1) ^^^ 0x1021 else r <<< 1)

/-- One byte of the CRC, its most significant bit first (section 9.3). -/
def crcByte (r : BitVec 16) (b : Byte) : BitVec 16 := crcShift 8 (r ^^^ (b.setWidth 16 <<< 8))

/-- The CRC of a run of bytes (section 9.3). -/
def crc (l : List Byte) : BitVec 16 := l.foldl crcByte 0xFFFF

/-- The address modes the kind table allows a kind (section 9.3); none for a code of no kind. -/
def allowedModes (kind : Byte) : Option (List Byte) :=
  if kind = 0x10 then some [0]
  else if kind = 0x20 ∨ kind = 0x30 then some [0, 1]
  else if kind = 0x40 ∨ kind = 0x41 then some [1, 2]
  else if kind = 0x42 ∨ kind = 0x43 ∨ kind = 0x44 ∨ kind = 0x45 ∨ kind = 0x50 ∨ kind = 0x51 then some [2]
  else none

/-- The address matches under a mode (R179 test 4). -/
def addressMatches (mode : Byte) (address group unit : Nat) : Bool :=
  if mode = 0 then true
  else if mode = 1 then decide (group ≠ Config.noGroup) && decide (address % 65536 = group)
  else decide (address = unit)

/-- The address filter on a packet's bytes (R179). -/
def admits (packet : List Byte) (group unit : Nat) : Bool :=
  match allowedModes (packet.getD 1 0) with
  | none => false
  | some modes =>
    modes.contains (packet.getD 2 0) &&
      addressMatches (packet.getD 2 0) (beNat ((packet.drop 3).take 4)) group unit

/-- The CRC of a whole candidate matches (R175). -/
def crcMatches (packet : List Byte) : Bool :=
  crc ((packet.drop 1).take (packet.length - 3)) ==
    BitVec.ofNat 16 (beNat (packet.drop (packet.length - 2)))

/-! ### The assembler (section 9.4) -/

/-- A rejected candidate loses its sync byte and the search goes on (R176). -/
def HeadendFeed.reject (h : HeadendFeed) : HeadendFeed :=
  { h with buffer := h.buffer.drop 1, assembler := .hunt }

/-- The judgement of a candidate whose last CRC byte has been read (R175). -/
def HeadendFeed.judge (h : HeadendFeed) (unit : Nat) : HeadendFeed :=
  let packet := h.candidate (10 + h.bodyLength)
  if crcMatches packet then
    let h := { h with silence := true }
    if admits packet h.setup.group unit then { h with assembler := .handing } else h.dropPacket
  else h.reject

/-- The assembler reads byte `b`, the candidate's next one, or the oldest in HUNT (R173 to R175). -/
def HeadendFeed.readByte (h : HeadendFeed) (unit : Nat) (b : Byte) : HeadendFeed :=
  match h.assembler with
  | .hunt =>
    if b = Config.sync then { h with assembler := .header 1 } else { h with buffer := h.buffer.drop 1 }
  | .header n =>
    if n < 7 then { h with assembler := .header (n + 1) }
    else if Config.maxPacketBody < b.toNat then h.reject
    else if b = 0 then { h with assembler := .check 8 }
    else { h with assembler := .body 8 }
  | .body n =>
    if n + 1 < 8 + h.bodyLength then { h with assembler := .body (n + 1) }
    else { h with assembler := .check (n + 1) }
  | .check n =>
    if n + 1 < 10 + h.bodyLength then { h with assembler := .check (n + 1) } else h.judge unit
  | .handing => h

/-- How many of the buffer's bytes the assembler has read. -/
def Assembler.readCount : Assembler → Nat
  | .hunt | .handing => 0
  | .header n | .body n | .check n => n

/-- The item the assembler comes to next; none while it hands a packet on (R173). -/
def HeadendFeed.nextItem (h : HeadendFeed) : Option FeedItem :=
  match h.assembler with
  | .handing => none
  | _ => h.buffer[h.assembler.readCount]?

/-- ASSEMBLER_BYTE_READ (R173 to R176). -/
def execAssemblerByteRead (s : State) : Host.Outcome State Fault Refusal :=
  .next (if s.phase = .running then
    match s.hf.nextItem with
    | some (.byte b) => { s with hf := s.hf.readByte s.unitAddress b }
    | some .gap | none => s
  else s)

/-- At a gap mark the candidate and the mark leave; in HUNT the mark alone is there to leave (R173,
R177). -/
def HeadendFeed.abandon (h : HeadendFeed) : HeadendFeed :=
  { h with buffer := h.buffer.drop (h.assembler.readCount + 1), assembler := .hunt }

/-- ASSEMBLER_GAP_MARK (R177). -/
def execAssemblerGapMark (s : State) : Host.Outcome State Fault Refusal :=
  .next (if s.phase = .running then
    match s.hf.nextItem with
    | some .gap => { s with hf := s.hf.abandon }
    | some (.byte _) | none => s
  else s)

/-- SILENCE_TIMER_EXPIRY (R178): only while the timer runs. -/
def execSilenceTimerExpiry (s : State) : Host.Outcome State Fault Refusal :=
  .next (if s.phase = .running ∧ s.hf.silence = true then
    ({ s with hf := { s.hf with silence := false } } : State).latch .feedSilent
  else s)

/-! ### FEED SETUP and GROUP -/

/-- A mode code (chapter 10, request table). -/
def PortMode.ofCode : Nat → Option PortMode
  | 0 => some .strobe
  | 1 => some .leading
  | 2 => some .trailing
  | _ => none

/-- A polarity code (chapter 10, request table). -/
def Polarity.ofCode : Nat → Option Polarity
  | 0 => some .activeHigh
  | 1 => some .activeLow
  | _ => none

/-- An FSTB active edge is the command waiting next: it has reached the port together with the one
being taken (log 6). -/
def edgeWaiting : List Instr → Bool
  | .fstbActiveEdge _ :: _ => true
  | _ => false

/-- HF after a taken FEED SETUP (R182 steps 1 to 4). -/
def HeadendFeed.setUp (h : HeadendFeed) (m : PortMode) (st ak : Polarity) (edge : Bool) : HeadendFeed :=
  { h with
    setup := { h.setup with mode := m, fstb := st, fack := ak }
    buffer := []
    assembler := .hunt
    handshake := false
    fackHeld := edge }

/-- FEED SETUP (R182). -/
def execFeedSetup (s : State) : Host.Outcome State Fault Refusal :=
  .next (s.serve 0x50 (readThree 1 1 1) fun f s =>
    match PortMode.ofCode f.1, Polarity.ofCode f.2.1, Polarity.ofCode f.2.2 with
    | some m, some st, some ak =>
      answer .ok
        (({ s with hf := s.hf.setUp m st ak (edgeWaiting s.pending) } : State).markDirty
          .feedSetup).startWrite
    | _, _, _ => answer .badField s)

/-- GROUP (R181). -/
def execGroup (s : State) : Host.Outcome State Fault Refusal :=
  .next (s.takePacket 0x45 fun body s =>
    match readWord body with
    | none => s
    | some g =>
      (({ s with hf := { s.hf with setup := { s.hf.setup with group := g } } } : State).markDirty
        .feedSetup).startWrite)

end Sys2Proof.Machine
end

