-- ==== Sys2Proof/Machine/ProgrammeGuide.lean ====
section
/-! DEFINITION. The programme guide (chapter 5): intake, placement, capacity, purge, QUERY GUIDE and
QUERY TITLE. -/

namespace Sys2Proof.Machine

/-- A programme at intake, adjusted, or none where it is dropped (R74). -/
def RawEvent.intake (service : Nat) (r : RawEvent) : Option GuideEvent :=
  if r.eventId = 0 ∨ 1439 < r.minute ∨ r.duration = 0 ∨ 1440 < r.duration then none
  else some
    { service := service
      eventId := r.eventId
      start := r.day * Config.dayMinutes + r.minute
      duration := r.duration
      rating := min r.rating 6
      flags := r.flags.setWidth 4
      price := r.price
      preview := min r.preview 15
      title := r.title.take 48 }

/-- A programme has ended at `now`; none has while time is unknown (R75, R82). -/
def GuideEvent.ended (e : GuideEvent) (now : Option Nat) : Bool :=
  match now with
  | none => false
  | some n => decide (e.finish ≤ n)

/-- Two programmes overlap when each starts before the other ends (R70). -/
def GuideEvent.overlaps (a b : GuideEvent) : Bool :=
  decide (a.start < b.finish) && decide (b.start < a.finish)

/-- Records that end at or before now leave the table (R78 step 1, R82). -/
def Guide.purge (g : Guide) (now : Option Nat) : Guide :=
  { events := g.events.filter fun e => !e.ended now }

/-- The stored records of the service that share the new programme's id or overlap it leave (R76,
R77). -/
def Guide.clear (g : Guide) (x : GuideEvent) : Guide :=
  { events := g.events.filter fun e =>
      !(e.service == x.service && (e.eventId == x.eventId || e.overlaps x)) }

/-- There is room for a programme (R78). -/
def Guide.hasRoom (g : Guide) (x : GuideEvent) : Bool :=
  decide (g.events.length < Config.guideRecords) &&
    decide (x.title.length + g.poolUse ≤ Config.titlePool)

/-- The order of the table: by service, and within one by start (R70). -/
def GuideEvent.before (a b : GuideEvent) : Bool :=
  decide (a.service < b.service) || (a.service == b.service && decide (a.start < b.start))

/-- A record takes its place in the table (R80). -/
def insertEvent (x : GuideEvent) : List GuideEvent → List GuideEvent
  | [] => [x]
  | y :: ys => if x.before y then x :: y :: ys else y :: insertEvent x ys

/-- `a` is a later victim than `b`: later start, or the same start and a higher service (R78 step 2). -/
def GuideEvent.laterVictim (a b : GuideEvent) : Bool :=
  decide (b.start < a.start) || (a.start == b.start && decide (b.service < a.service))

/-- The stored record of latest start, ties to the highest service (R78 step 2). -/
def Guide.victim (g : Guide) : Option GuideEvent :=
  g.events.foldl (fun best e =>
    match best with
    | none => some e
    | some b => if e.laterVictim b then some e else some b) none

/-- What making room comes to: the table, whether the programme has room, whether GUIDE_FULL is latched
(R78, R79). -/
structure Room where
  guide : Guide
  stored : Bool
  full : Bool
deriving DecidableEq, Repr

/-- Evictions until there is room or the programme is dropped (R78 steps 2 and 3); `fuel` bounds the
evictions by the records there are. -/
def Guide.evict (g : Guide) (x : GuideEvent) (full : Bool) : Nat → Room
  | 0 => ⟨g, g.hasRoom x, full⟩
  | fuel + 1 =>
    if g.hasRoom x then ⟨g, true, full⟩
    else
      match g.victim with
      | none => ⟨g, false, full⟩
      | some v =>
        if x.start < v.start then
          Guide.evict { events := g.events.erase v } x true fuel
        else ⟨g, false, true⟩

/-- Room for a programme, with one purge at most (R78). -/
def Guide.makeRoom (g : Guide) (x : GuideEvent) (now : Option Nat) : Room :=
  if g.hasRoom x then ⟨g, true, false⟩
  else (g.purge now).evict x false (g.purge now).events.length

/-- Placement of one programme that intake has kept (R75 to R80): the table, and whether GUIDE_FULL is
latched. -/
def Guide.place (g : Guide) (x : GuideEvent) (now : Option Nat) : Guide × Bool :=
  if x.ended now then (g, false)
  else
    let r := (g.clear x).makeRoom x now
    (if r.stored then { events := insertEvent x r.guide.events } else r.guide, r.full)

/-- Placement of a packet's programmes, first to last (R73). -/
def Guide.placeAll (g : Guide) (xs : List GuideEvent) (now : Option Nat) : Guide × Bool :=
  xs.foldl (fun acc x => let r := acc.1.place x now; (r.1, acc.2 || r.2)) (g, false)

/-- The fields whose change counts as a change of the current programme: all but the title (R85). -/
def GuideEvent.untitled (e : GuideEvent) : GuideEvent := { e with title := [] }

/-- The ACTIVE outputs whose service has another current programme than in `old` (R85). -/
def State.programmeChanged (old s : State) : List OutputId :=
  s.activeOutputs.filter fun o =>
    (s.currentOf o).map GuideEvent.untitled != (old.currentOf o).map GuideEvent.untitled

/-- PG takes a GUIDE packet that R73 has accepted. -/
def State.takeGuide (g : RawGuide) (s : State) : State :=
  let r := s.pg.placeAll (g.events.filterMap (RawEvent.intake g.service)) s.now
  let s' : State := { s with pg := r.1 }
  let s'' := if r.2 then s'.latch .guideFull else s'
  s''.report (State.programmeChanged s s'')

/-- GUIDE (R73 to R81, R85). -/
def execGuide (s : State) : Host.Outcome State Fault Refusal :=
  .next (s.takePacket 0x30 fun body s =>
    match readGuide body with
    | none => s
    | some g => s.takeGuide g)

/-- QUERY GUIDE (R87). -/
def execQueryGuide (s : State) : Host.Outcome State Fault Refusal :=
  .next (s.serve 0x21 (readThree 2 4 1) fun f s =>
    if (1 ≤ f.1 ∧ f.1 ≤ 999) ∧ f.2.1 ≤ Config.maxGuideMinute ∧ 1 ≤ f.2.2 then
      ⟨s, .ok, guidePage s.pg f.1 f.2.1 f.2.2⟩
    else answer .badField s)

/-- QUERY TITLE (R88). -/
def execQueryTitle (s : State) : Host.Outcome State Fault Refusal :=
  .next (s.serve 0x22 (readTwo 2 2) fun f s =>
    if (1 ≤ f.1 ∧ f.1 ≤ 999) ∧ 1 ≤ f.2 then
      match s.pg.record f.1 f.2 with
      | none => answer .noEvent s
      | some e => ⟨s, .ok, listField (fun c => [c]) e.title⟩
    else answer .badField s)

end Sys2Proof.Machine
end

