-- ==== Sys2Proof/Machine/Store.lean ====
section
/-! DEFINITION. The settings store (chapter 11): the load end with EP's reconciliation, and the
completion of a write. -/

namespace Sys2Proof.Machine

/-! ### Reconciliation (R118) -/

/-- The records read from the purchase slots, each in the slot it was read from. -/
def Records.loaded (r : Records) : List Purchase :=
  (List.finRange 32).filterMap fun k => (readRecord r.slots[k]).map fun p => { p with slot := k }

/-- Step 1: stored OPEN at or below the acknowledged-through number. -/
def Purchase.lateAck (acked : Nat) (p : Purchase) : Bool := p.state == .opened && decide (p.seq ≤ acked)

/-- Step 1 on a record. -/
def Purchase.acknowledged (acked : Nat) (p : Purchase) : Purchase :=
  if p.lateAck acked then { p with state := .reported } else p

/-- Step 2: another record of the same service and event id has a higher sequence number; between equal
numbers, which no part stores, the lower slot stands (log 18). -/
def Purchase.superseded (all : List Purchase) (p : Purchase) : Bool :=
  all.any fun q => q.service == p.service && q.eventId == p.eventId &&
    (decide (p.seq < q.seq) || (q.seq == p.seq && decide (q.slot < p.slot)))

/-- Step 3: a record takes its place in ascending sequence order. -/
def insertPurchase (p : Purchase) : List Purchase → List Purchase
  | [] => [p]
  | q :: qs => if p.seq < q.seq then p :: q :: qs else q :: insertPurchase p qs

/-- Step 3: the log of the kept records. -/
def sortPurchases (l : List Purchase) : List Purchase := l.foldl (fun acc p => insertPurchase p acc) []

/-- Step 4: the next sequence number, above every kept record. -/
def raisedNext (next : Nat) (log : List Purchase) : Nat :=
  log.foldl (fun n p => max n (p.seq + 1)) next

/-- EP from its records at the load (R117, R118). -/
def Records.purchasing (r : Records) : Purchasing :=
  let q := (readRecord r.sequence).getD .initial
  let all := r.loaded.map (Purchase.acknowledged q.acked)
  let log := sortPurchases (all.filter fun p => !p.superseded all)
  { ent := (readRecord r.entitlements).getD .initial
    log := log
    seq := { q with next := raisedNext q.next log }
    lastCompleted := none }

/-- The records whose slots the reconciliation marks dirty (R118 steps 1 and 2). -/
def Records.reconciled (r : Records) : List Purchase :=
  let q := (readRecord r.sequence).getD .initial
  let all := r.loaded.map (Purchase.acknowledged q.acked)
  r.loaded.filter fun p => p.lateAck q.acked || p.superseded all

/-! ### The load end (R206) -/

/-- Each owner takes its state from its records, or the defaults of R205 where they are blank, each record
on its own (R15, R42, R117, R145, R185, R204). -/
def State.takeRecords (s : State) : State :=
  let r := s.ss.records
  { s with
    hf := { s.hf with setup := (readRecord r.feedSetup).getD .initial, silence := true }
    cm := { committed := (readRecord r.map).getD { entries := [], version := none }, staging := none }
    tp := { s.tp with ifKHz := (readRecord r.tunerSetup).getD Config.defaultIf }
    ep := r.purchasing
    pc := { s.pc with
      profiles := r.profiles.map fun p => (readRecord p).getD .initial
      bindings := (readRecord r.bindings).getD initialBindings
      record := (readRecord r.pin).getD .initial } }

/-- LOAD_END (R206). -/
def State.endLoad (s : State) : State :=
  (((s.takeRecords.markSlots s.ss.records.reconciled).latch .ready).startWrite |> fun s' : State =>
    { s' with phase := .running })

def execLoadEnd (s : State) : Host.Outcome State Fault Refusal :=
  .next (if s.phase = .loading then s.endLoad else s)

/-! ### The completion of a write (R210) -/

/-- The record holds the content the write carried, with its check value (R210 step 1, R209). -/
def Records.store (r : Records) : Content → Records
  | .slot k p q => { r with slots := r.slots.set k (p.map .written), sequence := some (.written q) }
  | .sequence q => { r with sequence := some (.written q) }
  | .pin x => { r with pin := some (.written x) }
  | .entitlements e => { r with entitlements := some (.written e) }
  | .profile p v => { r with profiles := r.profiles.set p (some (.written v)) }
  | .bindings b => { r with bindings := some (.written b) }
  | .map m => { r with map := some (.written m) }
  | .feedSetup f => { r with feedSetup := some (.written f) }
  | .tunerSetup n => { r with tunerSetup := some (.written n) }

/-- A write completes: the record, the engine IDLE, EP told of a slot, the next write (R210, R107). -/
def State.completeWrite (c : Content) (s : State) : State :=
  let s' : State := { s with ss := { s.ss with records := s.ss.records.store c, engine := none } }
  match c with
  | .slot k p _ => s'.completePurchase k p
  | _ => s'.startWrite

/-- WRITE_COMPLETION (R210): only while a write is in progress. -/
def execWriteCompletion (s : State) : Host.Outcome State Fault Refusal :=
  .next (match s.ss.engine with
    | none => s
    | some c => s.completeWrite c)

end Sys2Proof.Machine
end

