-- ==== Sys2Proof/Machine/TimeKeeping.lean ====
section
/-! DEFINITION. The time base (chapter 4): the second expiry, TIME packets and minute events. -/

namespace Sys2Proof.Machine

/-- A minute event (R62, R159): PG purges, PC counts down, EP removes, and every ACTIVE output is
evaluated against the state that leaves. -/
def State.minuteEvent (s : State) : State :=
  let s : State := { s with pg := s.pg.purge s.now }
  let s := s.parentalMinute.purchaseMinute
  s.report s.activeOutputs

/-- One second of the wall clock (R61 step 2). -/
def WallClock.tick (c : WallClock) : WallClock :=
  if c.second + 1 < Config.daySeconds then { c with second := c.second + 1 }
  else { day := (c.day + 1) % Config.dayWrap, second := 0 }

/-- A second expiry at TB (R61). -/
def TimeBase.tick (b : TimeBase) : TimeBase :=
  { localSeconds := (b.localSeconds + 1) % Config.localWrap, clock := b.clock.map WallClock.tick }

/-- A second expiry that left TB so raises a minute event (R62). -/
def TimeBase.minuteDue (b : TimeBase) : Bool :=
  match b.clock with
  | none => b.localSeconds % 60 == 0
  | some c => c.second % 60 == 0

/-- SECOND_EXPIRY (R61, R62): the timer runs from the release of a reset, and minute events are handed
on once the load has ended. -/
def execSecondExpiry (s : State) : Host.Outcome State Fault Refusal :=
  .next (match s.phase with
    | .off | .held => s
    | .loading => { s with tb := s.tb.tick }
    | .running =>
      let s' : State := { s with tb := s.tb.tick }
      if s'.tb.minuteDue then s'.minuteEvent else s')

/-- A time as a count of seconds (R65). -/
def WallClock.seconds (c : WallClock) : Nat := c.day * Config.daySeconds + c.second

/-- The size of a jump, without regard to sign (R65). -/
def WallClock.jump (a b : WallClock) : Nat := (a.seconds - b.seconds) + (b.seconds - a.seconds)

/-- TB takes a time (R64, R65). -/
def State.takeTime (c : WallClock) (s : State) : State :=
  let set : State := { s with tb := { s.tb with clock := some c } }
  match s.tb.clock with
  | none => (set.latch .timeSet).minuteEvent
  | some held =>
    if c.now = held.now then set
    else if 60 < c.jump held then (set.latch .timeSet).minuteEvent
    else set.minuteEvent

/-- TIME (R63 to R65). -/
def execTime (s : State) : Host.Outcome State Fault Refusal :=
  .next (s.takePacket 0x10 fun body s =>
    match readTime body with
    | none => s
    | some c => if c.second < Config.daySeconds then s.takeTime c else s)

end Sys2Proof.Machine
end

