-- ==== Sys2Proof/Machine/TunerPool.lean ====
section
/-! DEFINITION. Tuner events (sections 2.3 and 2.4), QUERY TUNER and TUNER SETUP. -/

namespace Sys2Proof.Machine

/-- A tuner event on a serving part: the tuner's record becomes `x`, and the outputs attached to it are
re-evaluated where its state changed (R32). -/
def State.tunerTo (t : TunerId) (x : Tuner) (s : State) : State := State.finish s [] (s.setTuner t x)

/-- A tuner enters FAILED (R29). -/
def State.failTuner (t : TunerId) (x : Tuner) (r : FailReason) (s : State) : State :=
  State.finish s [] ((s.setTuner t { x with state := .failed, reason := some r }).latch (.tunerFault t))

/-- LOCK_INDICATION (R24). -/
def execLockIndication (t : TunerId) (s : State) : Host.Outcome State Fault Refusal :=
  .next (if s.phase = .running then
    match s.tp.tuners[t].state with
    | .settling => s.tunerTo t { s.tp.tuners[t] with state := .measuring }
    | .idle | .measuring | .locked | .failed => s
  else s)

/-- UNLOCK_INDICATION (R28). -/
def execUnlockIndication (t : TunerId) (s : State) : Host.Outcome State Fault Refusal :=
  .next (if s.phase = .running then
    match s.tp.tuners[t].state with
    | .measuring => s.tunerTo t { s.tp.tuners[t] with state := .settling }
    | .locked =>
      State.finish s []
        ((s.setTuner t { s.tp.tuners[t] with state := .settling, corrections := 0 }).latch (.tunerFault t))
    | .idle | .settling | .failed => s
  else s)

/-- SETTLE_EXPIRY (R25): the settle timer runs only in SETTLING. -/
def execSettleExpiry (t : TunerId) (s : State) : Host.Outcome State Fault Refusal :=
  .next (if s.phase = .running then
    match s.tp.tuners[t].state with
    | .settling => s.failTuner t s.tp.tuners[t] .noLock
    | .idle | .measuring | .locked | .failed => s
  else s)

/-- What the gate reports for the IF cycles counted (R22). -/
def gateReport (cycles : Nat) : IfCount :=
  if Config.maxIfCount < cycles then .overflow else .count cycles

/-- A value held within −`bound` to +`bound` (R27). -/
def clampTo (bound x : Int) : Int := max (-bound) (min bound x)

/-- The steps of a correction before clamping: d / 250 to the nearest integer, halves away from zero
(R27 step 1). -/
def correctionSteps (d : Int) : Int :=
  if 0 ≤ d then (d + 125) / 250 else -((-d + 125) / 250)

/-- The offset a deviation calls for (R27 steps 1 to 3). -/
def correctedOffset (offset d : Int) : Int := clampTo 32 (offset - clampTo 16 (correctionSteps d))

/-- What a gate completion in MEASURING comes to (R26, R27). -/
inductive GateResult where
  | locked
  | corrected (offset : Int)
  | failed (r : FailReason)
deriving DecidableEq, Repr

/-- The classification of a count (R26, R27): the expected count is IF × 4. -/
def classify (ifKHz : Nat) (offset : Int) (corrections : Nat) : IfCount → GateResult
  | .overflow => .failed .noCarrier
  | .count c =>
    let d := (c : Int) - 4 * ifKHz
    if c < ifKHz then .failed .noCarrier
    else if -Config.ifWindow ≤ d ∧ d ≤ Config.ifWindow then .locked
    else if 3 ≤ corrections then .failed .offFrequency
    else if correctedOffset offset d = offset then .failed .offFrequency
    else .corrected (correctedOffset offset d)

/-- A gate completion in MEASURING (R26, R27, R29). -/
def State.completeGate (t : TunerId) (c : IfCount) (s : State) : State :=
  let x := { s.tp.tuners[t] with lastCount := some c }
  match classify s.tp.ifKHz x.offset x.corrections c with
  | .locked => s.tunerTo t { x with state := .locked }
  | .failed r => s.failTuner t x r
  | .corrected k =>
    State.finish s []
      (s.loadDivisor t { x with state := .settling, offset := k, corrections := x.corrections + 1 })

/-- GATE_COMPLETION (R26): the gate runs only in MEASURING, and a completion elsewhere belongs to an
abandoned gate. -/
def execGateCompletion (t : TunerId) (cycles : Nat) (s : State) : Host.Outcome State Fault Refusal :=
  .next (if s.phase = .running then
    match s.tp.tuners[t].state with
    | .measuring => s.completeGate t (gateReport cycles)
    | .idle | .settling | .locked | .failed => s
  else s)

/-- RETRY_EXPIRY (R30): the retry timer runs only in FAILED. -/
def execRetryExpiry (t : TunerId) (s : State) : Host.Outcome State Fault Refusal :=
  .next (if s.phase = .running then
    match s.tp.tuners[t].state, s.tp.tuners[t].carrier with
    | .failed, some c => State.finish s [] (s.acquire t c)
    | _, _ => s
  else s)

/-- QUERY TUNER (R41). -/
def execQueryTuner (s : State) : Host.Outcome State Fault Refusal :=
  .next (s.serve 0x15 (readOne 1) fun v s =>
    if h : v < 3 then ⟨s, .ok, tunerBody s ⟨v, h⟩⟩ else answer .badField s)

/-- TUNER SETUP after its field check (R40). -/
def State.setIf (ifKHz : Nat) (s : State) : State :=
  if s.tp.ifKHz = ifKHz then s
  else (({ s with tp := { s.tp with ifKHz := ifKHz } } : State).markDirty .tunerSetup).startWrite

/-- TUNER SETUP (R40). -/
def execTunerSetup (s : State) : Host.Outcome State Fault Refusal :=
  .next (s.serve 0x16 (readOne 3) fun v s =>
    if 30000 ≤ v ∧ v ≤ 60000 then
      if s.awake then answer .busy s else answer .ok (s.setIf v)
    else answer .badField s)

end Sys2Proof.Machine
end

