-- ==== Sys2Proof/Machine/Dispatch.lean ====
section
/-! DEFINITION. One arm per command. -/

namespace Sys2Proof.Machine

/-- A command's effect on everything but the queue of waiting commands. -/
def exec (i : Instr) (s : State) : Host.Outcome State Fault Refusal :=
  match i with
  | .powerOn => Sys2Proof.Machine.execPowerOn s
  | .powerLoss => Sys2Proof.Machine.execPowerLoss s
  | .resetLineAssert => Sys2Proof.Machine.execResetLineAssert s
  | .resetLineRelease => Sys2Proof.Machine.execResetLineRelease s
  | .loadEnd => Sys2Proof.Machine.execLoadEnd s
  | .secondExpiry => Sys2Proof.Machine.execSecondExpiry s
  | .characterReceived c => Sys2Proof.Machine.execCharacterReceived c s
  | .gapTimerExpiry => Sys2Proof.Machine.execGapTimerExpiry s
  | .replySent => Sys2Proof.Machine.execReplySent s
  | .unknownRequest => Sys2Proof.Machine.execUnknownRequest s
  | .ident => Sys2Proof.Machine.execIdent s
  | .status => Sys2Proof.Machine.execStatus s
  | .restart => Sys2Proof.Machine.execRestart s
  | .mask => Sys2Proof.Machine.execMask s
  | .take => Sys2Proof.Machine.execTake s
  | .wake => Sys2Proof.Machine.execWake s
  | .standby => Sys2Proof.Machine.execStandby s
  | .select => Sys2Proof.Machine.execSelect s
  | .step => Sys2Proof.Machine.execStep s
  | .queryOutput => Sys2Proof.Machine.execQueryOutput s
  | .queryTuner => Sys2Proof.Machine.execQueryTuner s
  | .tunerSetup => Sys2Proof.Machine.execTunerSetup s
  | .queryMap => Sys2Proof.Machine.execQueryMap s
  | .queryGuide => Sys2Proof.Machine.execQueryGuide s
  | .queryTitle => Sys2Proof.Machine.execQueryTitle s
  | .buy => Sys2Proof.Machine.execBuy s
  | .queryPurchases => Sys2Proof.Machine.execQueryPurchases s
  | .queryTiers => Sys2Proof.Machine.execQueryTiers s
  | .pinSet => Sys2Proof.Machine.execPinSet s
  | .pinClear => Sys2Proof.Machine.execPinClear s
  | .pinEnter => Sys2Proof.Machine.execPinEnter s
  | .freeze => Sys2Proof.Machine.execFreeze s
  | .profileSet => Sys2Proof.Machine.execProfileSet s
  | .queryProfile => Sys2Proof.Machine.execQueryProfile s
  | .bind => Sys2Proof.Machine.execBind s
  | .feedSetup => Sys2Proof.Machine.execFeedSetup s
  | .fstbActiveEdge fd => Sys2Proof.Machine.execFstbActiveEdge fd s
  | .fstbRelease fd => Sys2Proof.Machine.execFstbRelease fd s
  | .handshakeTimeout => Sys2Proof.Machine.execHandshakeTimeout s
  | .assemblerByteRead => Sys2Proof.Machine.execAssemblerByteRead s
  | .assemblerGapMark => Sys2Proof.Machine.execAssemblerGapMark s
  | .silenceTimerExpiry => Sys2Proof.Machine.execSilenceTimerExpiry s
  | .time => Sys2Proof.Machine.execTime s
  | .map => Sys2Proof.Machine.execMap s
  | .guide => Sys2Proof.Machine.execGuide s
  | .grant => Sys2Proof.Machine.execGrant s
  | .revoke => Sys2Proof.Machine.execRevoke s
  | .credit => Sys2Proof.Machine.execCredit s
  | .purack => Sys2Proof.Machine.execPurack s
  | .unit => Sys2Proof.Machine.execUnit s
  | .group => Sys2Proof.Machine.execGroup s
  | .master => Sys2Proof.Machine.execMaster s
  | .pinreset => Sys2Proof.Machine.execPinreset s
  | .lockIndication t => Sys2Proof.Machine.execLockIndication t s
  | .unlockIndication t => Sys2Proof.Machine.execUnlockIndication t s
  | .settleExpiry t => Sys2Proof.Machine.execSettleExpiry t s
  | .gateCompletion t cycles => Sys2Proof.Machine.execGateCompletion t cycles s
  | .retryExpiry t => Sys2Proof.Machine.execRetryExpiry t s
  | .writeCompletion => Sys2Proof.Machine.execWriteCompletion s

end Sys2Proof.Machine
end

