-- ==== Sys2Proof/Safety.lean ====
section
/-! DEFINITION. What a safe run keeps: the laws the spec states of each block, as predicates of a state;
and the terms in which the obligations speak of a request being served, a packet being taken and the
close of an event. -/

namespace Sys2Proof.Machine

/-! ### The pins (R56, R57, R156) -/

/-- A run of pin events is lawful from given gates: the picture gate goes off only with the descramble
gate off, the descramble gate goes on only with the picture gate on, and a route word is loaded only with
both gates of its output off. -/
def waveLawful : Vector Bool 4 → Vector Bool 4 → List PinEvent → Bool
  | _, _, [] => true
  | p, d, .picture o b :: rest => (b || !d[o]) && waveLawful (p.set o b) d rest
  | p, d, .descramble o b :: rest => (!b || p[o]) && waveLawful p (d.set o b) rest
  | p, d, .route o _ :: rest => !p[o] && !d[o] && waveLawful p d rest
  | p, d, .divisor _ _ :: rest => waveLawful p d rest
  | p, d, .reply _ :: rest => waveLawful p d rest
  | p, d, .replyCut _ _ :: rest => waveLawful p d rest

/-- The gates a run of pin events leaves, from given gates. -/
def gatesAfter : Vector Bool 4 → Vector Bool 4 → List PinEvent → Vector Bool 4 × Vector Bool 4
  | p, d, [] => (p, d)
  | p, d, .picture o b :: rest => gatesAfter (p.set o b) d rest
  | p, d, .descramble o b :: rest => gatesAfter p (d.set o b) rest
  | p, d, .route _ _ :: rest => gatesAfter p d rest
  | p, d, .divisor _ _ :: rest => gatesAfter p d rest
  | p, d, .reply _ :: rest => gatesAfter p d rest
  | p, d, .replyCut _ _ :: rest => gatesAfter p d rest

/-- Four gates off. -/
abbrev gatesDark : Vector Bool 4 := Vector.replicate 4 false

/-- What the pins have done since power-on is lawful, and ends in the present gates. -/
abbrev State.PinLaw (s : State) : Prop :=
  waveLawful gatesDark gatesDark s.pins.wave = true ∧
    gatesAfter gatesDark gatesDark s.pins.wave = (s.pins.picture, s.pins.descramble)

/-! ### Time (R60) -/

/-- The ranges of R60. -/
abbrev State.TimeLaw (s : State) : Prop :=
  s.tb.localSeconds ≤ 4294967279 ∧ ∀ c ∈ s.tb.clock, c.day ≤ 65535 ∧ c.second ≤ 86399

/-! ### Decisions (R146, R148, R156, R164) -/

/-- A pass an output holds matches it: the output is ACTIVE on the pass's service, a CHANNEL pass has 1 to
240 minutes left, and an EVENT pass names the service's current programme (R137, R138). -/
def State.passLawful (s : State) (o : OutputId) : Bool :=
  match s.pc.passes[o], s.ou[o].mode, s.ou[o].channel with
  | none, _, _ => true
  | some (.channel service left), .active, some ch => service == ch && decide (1 ≤ left ∧ left ≤ 240)
  | some (.event service eventId), .active, some ch =>
    service == ch && (s.current ch).any fun e => e.eventId == eventId
  | some _, _, _ => false

/-- Every output's record is the decision for the state in force, and its gates are on the pins, while
the part is loading or running; no output is awake while it loads; and no pass outlives its match. -/
abbrev State.DecisionLaw (s : State) : Prop :=
  s.TimeLaw ∧ (s.phase = .loading → ∀ o : OutputId, s.ou[o].mode = .standby) ∧
    (∀ o : OutputId, s.passLawful o = true) ∧
    (s.phase = .loading ∨ s.phase = .running → ∀ o : OutputId, s.ae[o] = s.decisionRecord o ∧
      s.pins.picture[o] = s.ae[o].picture ∧ s.pins.descramble[o] = s.ae[o].descramble)

/-! ### Tuners and outputs (R17, R18, R33, R36 to R38, R43, R44) -/

/-- A count of 20 bits, or OVERFLOW (R22). -/
def IfCount.inRange : IfCount → Bool
  | .count c => decide (c ≤ 1048575)
  | .overflow => true

/-- The table of R17 for one record. -/
abbrev Tuner.Law (x : Tuner) : Prop :=
  (x.state = .idle → x = .idle) ∧ (x.state ≠ .idle → x.carrier.isSome ∧ x.n0.isSome) ∧
    (∀ c ∈ x.carrier, 48000 ≤ c ∧ c ≤ 1002000) ∧ (∀ n ∈ x.n0, 1248 ≤ n ∧ n ≤ 16992) ∧
    (x.reason.isSome ↔ x.state = .failed) ∧ -32 ≤ x.offset ∧ x.offset ≤ 32 ∧ x.corrections ≤ 3 ∧
    ∀ r ∈ x.lastCount, r.inRange = true

/-- The range of the IF setting in kHz (R20, R40). -/
abbrev IfInRange (n : Nat) : Prop := 30000 ≤ n ∧ n ≤ 60000

/-- The IF setting a write carries. -/
def Content.ifKHz? : Content → Option Nat
  | .tunerSetup n => some n
  | _ => none

/-- Each tuner's record keeps R17, and the IF setting in force, the stored one and one being written are in
range. -/
abbrev State.TunerLaw (s : State) : Prop :=
  (∀ t : TunerId, s.tp.tuners[t].Law) ∧ IfInRange s.tp.ifKHz ∧
    (∀ n ∈ readRecord s.ss.records.tunerSetup, IfInRange n) ∧
    ∀ c ∈ s.ss.engine, ∀ n ∈ c.ifKHz?, IfInRange n

/-- The conditions of R44 on one output's attachment. -/
def State.attachmentLawful (s : State) (o : OutputId) : Bool :=
  match s.ou[o].mode, s.ou[o].channel with
  | .standby, _ => s.ou[o].attachment == .none
  | .active, none => s.ou[o].attachment == .none
  | .active, some ch =>
    match s.cm.committed.resolve ch, s.ou[o].attachment with
    | some _, .waiting => true
    | some e, .tuner t slot => s.tp.tuners[t].carrier == some e.carrier && slot == e.slot
    | _, _ => false

/-- The carrier an output's channel needs. -/
def State.needs (s : State) (o : OutputId) : Option Nat := (s.entryOf o).map MapEntry.carrier

/-- R18, R20's N0, one tuner a carrier (R33), R44, and no output that waits while a tuner is IDLE or on
its carrier (R37, R38). -/
abbrev State.PoolLaw (s : State) : Prop :=
  (∀ t : TunerId, s.tp.tuners[t].state = .idle ↔ s.attachedTo t = []) ∧
    (∀ t : TunerId, s.tp.tuners[t].state = .idle → s.tp.tuners[t] = .idle) ∧
    (∀ t : TunerId, s.tp.tuners[t].state ≠ .idle → s.tp.tuners[t].carrier.isSome ∧
      s.tp.tuners[t].n0 = s.tp.tuners[t].carrier.map fun c => nominalDivisor c s.tp.ifKHz) ∧
    (∀ t u : TunerId, t ≠ u → s.tp.tuners[t].state ≠ .idle → s.tp.tuners[u].state ≠ .idle →
      s.tp.tuners[t].carrier ≠ s.tp.tuners[u].carrier) ∧
    (∀ o p : OutputId, s.ou[o].mode = s.ou[p].mode) ∧
    (∀ o : OutputId, s.attachmentLawful o = true) ∧
    (∀ o : OutputId, s.ou[o].attachment = .waiting → ∀ t : TunerId, s.tp.tuners[t].state ≠ .idle ∧
      s.tp.tuners[t].carrier ≠ s.needs o) ∧
    (s.phase = .loading → ∀ o : OutputId, s.ou[o].mode = .standby)

/-! ### The PIN record (R124) -/

/-- The laws of R124 on one record, with the forms of its digits. -/
abbrev PinRecord.Law (r : PinRecord) : Prop :=
  (r.attempts ≤ 4 ∨ 0 < r.lockout) ∧ (0 < r.lockout → r.attempts = 5) ∧ r.lockout ≤ 15 ∧
    (r.pin = none → r.attempts = 0 ∧ r.lockout = 0) ∧
    (∀ d ∈ r.pin, d.length = 4 ∧ ∀ x ∈ d, x ≤ 9) ∧
    (∀ d ∈ r.master, (4 ≤ d.length ∧ d.length ≤ 8) ∧ ∀ x ∈ d, x ≤ 9)

/-- The PIN record a write carries. -/
def Content.pin? : Content → Option PinRecord
  | .pin r => some r
  | _ => none

/-- The laws hold of the record in force, of the stored one and of one being written. -/
abbrev State.PinRecordLaw (s : State) : Prop :=
  s.pc.record.Law ∧ (∀ r ∈ readRecord s.ss.records.pin, r.Law) ∧ ∀ c ∈ s.ss.engine, ∀ r ∈ c.pin?, r.Law

/-! ### The store (R207, R208, R212) -/

/-- The dirty set is in class order without duplicates, an IDLE engine has nothing to write, and no write
runs but in a serving part. -/
abbrev State.StoreLaw (s : State) : Prop :=
  s.ss.dirty.Pairwise (fun a b => a.rank < b.rank) ∧ (s.ss.engine = none → s.ss.dirty = []) ∧
    (s.phase ≠ .running → s.ss.engine = none)

/-! ### The purchase log (R97, R98, R106, R118) -/

/-- The ranges of R98. -/
abbrev Sequence.Law (q : Sequence) : Prop := 1 ≤ q.next ∧ q.next ≤ 4294967295 ∧ q.acked < q.next

/-- The SEQUENCE record as a load would read it (R205). -/
def Records.seq (r : Records) : Sequence := (readRecord r.sequence).getD .initial

/-- The SEQUENCE content a write carries (R209). -/
def Content.seq? : Content → Option Sequence
  | .slot _ _ q => some q
  | .sequence q => some q
  | _ => none

/-- The purchase a write carries, with its slot. -/
def Content.purchase? : Content → Option (SlotId × Purchase)
  | .slot k p _ => p.map fun x => (k, x)
  | _ => none

/-- R98 on the log. -/
abbrev Purchasing.Law (e : Purchasing) : Prop :=
  e.seq.Law ∧ e.log.Pairwise (fun a b => a.seq < b.seq) ∧ (∀ p ∈ e.log, 1 ≤ p.seq ∧ p.seq < e.seq.next) ∧
    e.log.length ≤ 32 ∧ e.log.Pairwise (fun a b => a.slot ≠ b.slot) ∧
    e.log.Pairwise fun a b => ¬(a.service = b.service ∧ a.eventId = b.eventId)

/-- What the slots hold: numbers below the stored next one, all different, never PENDING. -/
abbrev Records.PurchaseLaw (r : Records) : Prop :=
  r.seq.Law ∧ (∀ k : SlotId, ∀ p ∈ readRecord r.slots[k], 1 ≤ p.seq ∧ p.seq < r.seq.next ∧ p.state ≠ .pending) ∧
    ∀ j k : SlotId, j ≠ k → ∀ p ∈ readRecord r.slots[j], ∀ q ∈ readRecord r.slots[k], p.seq ≠ q.seq

/-- The same of the content a write carries, against the slots it leaves. -/
abbrev Content.PurchaseLaw (c : Content) (r : Records) : Prop :=
  (∀ q ∈ c.seq?, q.Law ∧ r.seq.next ≤ q.next) ∧
    ∀ x ∈ c.purchase?, 1 ≤ x.2.seq ∧ x.2.state ≠ .pending ∧ (∀ q ∈ c.seq?, x.2.seq < q.next) ∧
      ∀ j : SlotId, j ≠ x.1 → ∀ p ∈ readRecord r.slots[j], p.seq ≠ x.2.seq

/-- No number of the log stands in the store under another slot, and no stored number is still to be
given. -/
abbrev State.PurchaseTies (s : State) : Prop :=
  s.ss.records.seq.next ≤ s.ep.seq.next ∧
    (∀ k : SlotId, ∀ p ∈ readRecord s.ss.records.slots[k], ∀ q ∈ s.ep.log, q.seq = p.seq → q.slot = k) ∧
    ∀ c ∈ s.ss.engine, (∀ q ∈ c.seq?, q.next ≤ s.ep.seq.next) ∧
      ∀ x ∈ c.purchase?, ∀ q ∈ s.ep.log, q.seq = x.2.seq → q.slot = x.1

/-- The purchase log and its store. -/
abbrev State.PurchaseLaw (s : State) : Prop :=
  s.ep.Law ∧ s.ss.records.PurchaseLaw ∧ (∀ c ∈ s.ss.engine, c.PurchaseLaw s.ss.records) ∧
    (s.phase = .running → s.PurchaseTies) ∧ (s.phase ≠ .running → s.ss.engine = none)

/-! ### The channel map (R1, R2, R9) -/

/-- The fields of R1. -/
abbrev MapEntry.Law (e : MapEntry) : Prop :=
  (1 ≤ e.channel ∧ e.channel ≤ 999) ∧ (48000 ≤ e.carrier ∧ e.carrier ≤ 1002000) ∧ e.label.length ≤ 8 ∧
    ∀ c ∈ e.label, 0x20 ≤ c.toNat ∧ c.toNat ≤ 0x7E

/-- The laws of R2. -/
abbrev Lineup.Law (m : Lineup) : Prop :=
  m.entries.Pairwise (fun a b => a.channel < b.channel) ∧ m.entries.length ≤ 256 ∧
    (∀ e ∈ m.entries, e.Law) ∧ (m.version = none → m.entries = []) ∧ ∀ v ∈ m.version, v ≤ 255

/-- The laws of section 1.3 on a collection in progress. -/
abbrev Staging.Law (st : Staging) : Prop :=
  st.version ≤ 255 ∧ st.count ≤ 16 ∧ st.received.Pairwise (· < ·) ∧ (∀ n ∈ st.received, n < st.count) ∧
    st.entries.Pairwise (fun a b => a.entry.channel < b.entry.channel) ∧
    (∀ x ∈ st.entries, x.entry.Law ∧ x.segment ∈ st.received) ∧
    ∀ n ∈ st.received, (st.entries.filter fun x => x.segment = n).length ≤ 16

/-- The MAP content a write carries. -/
def Content.map? : Content → Option Lineup
  | .map m => some m
  | _ => none

/-- The laws hold of the map in force, the stored one, one being written, and the staging map. -/
abbrev State.MapLaw (s : State) : Prop :=
  s.cm.committed.Law ∧ (∀ st ∈ s.cm.staging, st.Law) ∧ (∀ m ∈ readRecord s.ss.records.map, m.Law) ∧
    ∀ c ∈ s.ss.engine, ∀ m ∈ c.map?, m.Law

/-! ### The guide (R69, R70, R71) -/

/-- The fields of R69. -/
abbrev GuideEvent.Law (e : GuideEvent) : Prop :=
  (1 ≤ e.service ∧ e.service ≤ 999) ∧ (1 ≤ e.eventId ∧ e.eventId ≤ 65535) ∧ e.start ≤ 94371839 ∧
    (1 ≤ e.duration ∧ e.duration ≤ 1440) ∧ e.rating ≤ 6 ∧ e.price ≤ 255 ∧ e.preview ≤ 15 ∧
    e.title.length ≤ 48

/-- The laws of R70: order by service and start, no overlap and no repeated id within a service, at most
1,536 records and 32,768 title bytes. -/
abbrev State.GuideLaw (s : State) : Prop :=
  s.pg.events.Pairwise (fun a b => a.service < b.service ∨
    (a.service = b.service ∧ a.finish ≤ b.start ∧ a.start < b.start)) ∧
    s.pg.events.Pairwise (fun a b => ¬(a.service = b.service ∧ a.eventId = b.eventId)) ∧
    s.pg.events.length ≤ 1536 ∧ s.pg.poolUse ≤ 32768 ∧ ∀ e ∈ s.pg.events, e.Law

/-! ### The feed (R172 to R175, R179) -/

/-- No two gap marks stand side by side (R172). -/
def gapsApart : List FeedItem → Bool
  | .gap :: .gap :: _ => false
  | _ :: rest => gapsApart rest
  | [] => true

/-- The oldest `n` items of the buffer are bytes, the first of them the sync. -/
def HeadendFeed.readBytes (h : HeadendFeed) (n : Nat) : Bool :=
  (h.candidate n).length == n && h.buffer.head? == some (.byte Config.sync)

/-- What the assembler has read stands in the buffer, and a packet that waits for its owner is whole, has
its CRC right and is addressed to this unit. -/
def HeadendFeed.assemblerLawful (h : HeadendFeed) (unit : Nat) : Bool :=
  match h.assembler with
  | .hunt => true
  | .header n => decide (1 ≤ n) && decide (n ≤ 7) && h.readBytes n
  | .body n => decide (8 ≤ n) && decide (n < 8 + h.bodyLength) && decide (h.bodyLength ≤ 232) && h.readBytes n
  | .check n =>
    decide (8 + h.bodyLength ≤ n) && decide (n < 10 + h.bodyLength) && decide (h.bodyLength ≤ 232) &&
      h.readBytes n
  | .handing =>
    decide (h.bodyLength ≤ 232) && h.readBytes (10 + h.bodyLength) &&
      crcMatches (h.candidate (10 + h.bodyLength)) &&
      admits (h.candidate (10 + h.bodyLength)) h.setup.group unit

/-- The buffer's capacity and marks, the assembler's progress, and a port at rest outside a serving
part. -/
abbrev State.FeedLaw (s : State) : Prop :=
  s.hf.byteCount ≤ 512 ∧ gapsApart s.hf.buffer = true ∧
    (s.hf.handshake = true → s.hf.setup.mode = .trailing → s.hf.byteCount < 512) ∧
    s.hf.assemblerLawful s.unitAddress = true ∧
    (s.phase ≠ .running → s.hf.handshake = false ∧ s.hf.silence = false) ∧
    (s.phase = .loading → s.hf.buffer = [] ∧ s.hf.assembler = .hunt)

/-! ### The control link (R187, R189, R191, R195, R202) -/

/-- A partial frame is within its length. -/
def Parser.lawful : Parser → Bool
  | .idle | .length => true
  | .kind len | .tag len _ => decide (len ≤ 250)
  | .body len _ _ got => decide (len ≤ 250) && decide (got.length < len)

/-- The sizes of the queue and of the transmit list, the parser, the load period's empty queue and clear
latches, and RESTART's reply waiting once RESTART has been served. -/
abbrev State.LinkLaw (s : State) : Prop :=
  s.cl.queue.length ≤ 4 ∧ s.cl.transmit.length ≤ 8 ∧ (∀ r ∈ s.cl.queue, r.body.length ≤ 250) ∧
    s.cl.parser.lawful = true ∧
    (s.phase = .loading → s.cl.queue = [] ∧ s.cl.latches = 0 ∧ s.cl.stopped = false) ∧
    (s.cl.stopped = true → ∃ r ∈ s.cl.transmit, r.kind = 0x83 ∧ r.status = .ok)

/-! ### Terms of the obligations -/

/-- The request handler is free and `r` is the oldest request (R190). -/
abbrev State.Serves (s : State) (r : Request) (rest : List Request) : Prop :=
  s.phase = .running ∧ s.cl.stopped = false ∧ s.cl.transmit.length < 8 ∧ s.cl.queue = r :: rest

/-- The state with `r` taken from the queue and its reply in the transmit list, nothing else changed. -/
def State.answered (s : State) (r : Request) (rest : List Request) (st : Status) (body : List Byte) :
    State :=
  { s with cl := { s.cl with
      queue := rest
      transmit := s.cl.transmit ++ [⟨r.kind ||| 0x80, r.tag, st, body⟩] } }

/-- A packet of the kind, with this body, waits for its owner (R180). -/
abbrev State.Hands (s : State) (kind : Byte) (body : List Byte) : Prop :=
  s.phase = .running ∧ s.hf.assembler = .handing ∧ s.hf.kind = kind ∧ s.hf.packetBody = body

/-- The state with the handed packet's bytes gone and the assembler in HUNT, nothing else changed
(R175). -/
def State.packetGone (s : State) : State :=
  { s with hf := { s.hf with buffer := s.hf.buffer.drop (10 + s.hf.bodyLength), assembler := .hunt } }

/-- The output holds an EVENT pass, and has no current programme or one of another event id (R138). -/
def State.PassDiffers (s : State) (o : OutputId) : Prop :=
  ∃ service eventId, s.pc.passes[o] = some (.event service eventId) ∧
    ∀ e, s.currentOf o = some e → e.eventId ≠ eventId

/-- `t` is `m` after the close of an event (R158, R208): only decision records, pins, OUTPUT_STATE
latches, the store's dirty set and engine, and EVENT passes may differ, of which those of ACTIVE outputs alone
end, and only where the current programme differs (R138, R148). -/
abbrev State.Closes (m t : State) : Prop :=
  t = { m with
    ae := t.ae
    pins := t.pins
    cl := { m.cl with latches := t.cl.latches }
    pc := { m.pc with passes := t.pc.passes }
    ss := { m.ss with dirty := t.ss.dirty, engine := t.ss.engine } } ∧
  (∀ o : OutputId, t.pc.passes[o] = m.pc.passes[o] ∨
    (t.pc.passes[o] = none ∧ m.ou[o].mode = .active ∧ m.PassDiffers o)) ∧
  (∀ n ∈ allNotices, m.cl.isSet n = true → t.cl.isSet n = true) ∧
  (∀ n ∈ allNotices, n.kind ≠ 0x02 → t.cl.isSet n = m.cl.isSet n) ∧
  ∃ w, t.pins.wave = m.pins.wave ++ w

/-- With a write in progress, or nothing dirty, the store stands (R208). -/
abbrev State.StoreRests (m t : State) : Prop := m.ss.engine ≠ none ∨ m.ss.dirty = [] → t.ss = m.ss

/-- The output has been evaluated: its record is the decision for the state, and while it is ACTIVE no EVENT
pass of another programme is left to it (R148, R155). -/
def State.Evaluated (t : State) (o : OutputId) : Prop :=
  t.ae[o] = t.decisionRecord o ∧ (t.ou[o].mode = .active → ¬t.PassDiffers o)

/-- `t` is `m` with tuner `u`'s record `x`, the outputs on the tuner decided anew (R32). -/
abbrev State.TunerBecomes (m : State) (u : TunerId) (x : Tuner) (t : State) : Prop :=
  ({ m with tp := { m.tp with tuners := m.tp.tuners.set u x } } : State).Closes t ∧ m.StoreRests t ∧
    ∀ o : OutputId, (∃ sl, m.ou[o].attachment = .tuner u sl) → t.Evaluated o

/-- The output pins do `e` between `s` and `t`. -/
abbrev State.Drives (s t : State) (e : PinEvent) : Prop := ∃ l, t.pins.wave = s.pins.wave ++ l ∧ e ∈ l

/-- The 4 bits of a route word: the tuner, 3 for none, then the slot (R56). -/
def routeBits : Option Route → BitVec 4
  | none => 0b1100
  | some r => BitVec.ofNat 2 r.tuner.val ++ BitVec.ofNat 2 r.slot.val

/-- Between `s` and `t` each output whose route has changed has the new route's word loaded, and no other
output has any (R50, R56). -/
abbrev State.RoutesFollow (s t : State) : Prop :=
  ∀ o : OutputId, (t.route o ≠ s.route o → s.Drives t (.route o (routeBits (t.route o)))) ∧
    (t.route o = s.route o → ∀ w, ¬s.Drives t (.route o w))

/-- The record of a tuner at an acquisition start on carrier `c` (R20, R23). -/
def State.startedOn (s : State) (c : Nat) : Tuner :=
  { state := .settling, carrier := some c, n0 := some ((16 * (c + s.tp.ifKHz) + 500) / 1000), offset := 0,
    corrections := 0, lastCount := none, reason := none }

/-- The transfer of a divisor to a front end: M in 10 bits, then S in 5 bits (R21). -/
def transferOf (n : Nat) : BitVec 15 := BitVec.ofNat 10 (n / 32) ++ BitVec.ofNat 5 (n % 32)

/-- The transfer an acquisition start on carrier `c` makes (R20, R21). -/
def State.startTransfer (s : State) (u : TunerId) (c : Nat) : PinEvent :=
  .divisor u (transferOf ((16 * (c + s.tp.ifKHz) + 500) / 1000))

/-- Between `s` and `t` each tuner keeps its record, or has gone IDLE, either without a transfer, or has
started an acquisition, with the transfer of its divisor and no other (R21, R23, R31). -/
abbrev State.TransfersFollow (s t : State) : Prop :=
  ∀ u : TunerId,
    ((t.tp.tuners[u] = s.tp.tuners[u] ∨ t.tp.tuners[u] = .idle) ∧ ∀ w, ¬s.Drives t (.divisor u w)) ∨
      ∃ c, t.tp.tuners[u] = s.startedOn c ∧ s.Drives t (s.startTransfer u c) ∧
        ∀ w, s.Drives t (.divisor u w) → .divisor u w = s.startTransfer u c

/-- The passes of `s`, but of outputs whose channel is another in `t`, whose passes end (R138). -/
def State.passesKept (s t : State) : Vector (Option Pass) 4 :=
  Vector.ofFn fun o : OutputId => if t.ou[o].channel = s.ou[o].channel then s.pc.passes[o] else none

/-- `t` is `m` after a change of outputs and tuners and the close of its event, passes ended by a change of
channel, route words loaded as the routes changed, and divisors transferred as tuners started; which outputs
and tuners, the statement says. -/
abbrev State.Retunes (m t : State) : Prop :=
  ({ m with
    ou := t.ou
    tp := { m.tp with tuners := t.tp.tuners }
    pc := { m.pc with passes := m.passesKept t } } : State).Closes t ∧
  m.RoutesFollow t ∧ m.TransfersFollow t

/-- What an owner takes from a record at a load: the content, where one was written and its check value
matches it, and the default otherwise (R204, R205). -/
abbrev TakesRecord {α : Type} (record : Option (Stored α)) (default taken : α) : Prop :=
  (∀ x, record = some x → x.check = Config.checkValue x.content → taken = x.content) ∧
    ((∀ x, record = some x → x.check ≠ Config.checkValue x.content) → taken = default)

/-- The record is dirty, or its content as it stands is being written (R207, R208). -/
def State.awaitsWrite (t : State) (r : RecordId) : Prop :=
  r ∈ t.ss.dirty ∨ t.ss.engine = some (t.supply r)

/-- SEQUENCE is dirty, or a write carries it as it stands, alone or with a slot (R209). -/
def State.awaitsSequence (t : State) : Prop :=
  .sequence ∈ t.ss.dirty ∨ ∃ c, t.ss.engine = some c ∧ c.seq? = some t.ep.seq

/-- A page of `items` under a limit (R192): the first ones, as many as the limit and the body's 250 bytes
allow; `build` gives the body from the items returned and the first one that follows. -/
abbrev PageOf {α : Type} (items : List α) (limit : Nat) (build : List α → Option α → List Byte)
    (body : List Byte) : Prop :=
  ∃ n, n ≤ limit ∧ n ≤ items.length ∧ body = build (items.take n) (items.drop n).head? ∧
    body.length ≤ 250 ∧
    (n = min limit items.length ∨
      250 < (build (items.take (n + 1)) (items.drop (n + 1)).head?).length)

/-! #### What replies carry, field by field (R192; the readings of log 9) -/

/-- A pass (R137, R58). -/
def passFields : Option Pass → List Byte
  | none => [0]
  | some (.event service eventId) => 1 :: 0 :: (u16 service ++ u16 eventId)
  | some (.channel service left) => 1 :: 1 :: (u16 service ++ u8 left)

/-- A route (R43, R58). -/
def routeFields : Option Route → List Byte
  | none => [0]
  | some r => [1, BitVec.ofNat 8 r.tuner.val, BitVec.ofNat 8 r.slot.val]

/-- Decision, reason, tier and preview minutes left of R146, the last three optional. -/
def decisionFields : Decision → List Byte
  | .off => [0, 0, 0, 0]
  | .blank => [1, 0, 0, 0]
  | .noTuner => [2, 0, 0, 0]
  | .disconnected => [3, 0, 0, 0]
  | .acquiring => [4, 0, 0, 0]
  | .noSignal => [5, 0, 0, 0]
  | .blockedParental .channelLock => [6, 1, 0, 0, 0]
  | .blockedParental .window => [6, 1, 1, 0, 0]
  | .blockedParental .unrated => [6, 1, 2, 0, 0]
  | .blockedParental .rating => [6, 1, 3, 0, 0]
  | .blockedParental .content => [6, 1, 4, 0, 0]
  | .blockedTier k => [7, 0, 1, BitVec.ofNat 8 k.val, 0]
  | .blockedPay .noEvent => [8, 1, 0, 0, 0]
  | .blockedPay .pending => [8, 1, 1, 0, 0]
  | .blockedPay .notBought => [8, 1, 2, 0, 0]
  | .preview n => [9, 0, 0, 1, BitVec.ofNat 8 n]
  | .clear => [10, 0, 0, 0]

/-- Every field of R146. -/
def recordFields (r : DecisionRecord) : List Byte :=
  decisionFields r.decision ++ opt u16 r.eventId ++ passFields r.pass ++ opt u16 r.channel ++
    routeFields r.route ++ [if r.picture then 1 else 0, if r.descramble then 1 else 0]

/-- Every field of R41. -/
def State.tunerFields (s : State) (n : TunerId) : List Byte :=
  let x := s.tp.tuners[n]
  let serves (o : OutputId) : Nat := match s.ou[o].attachment with
    | .tuner u _ => if u = n then 2 ^ o.val else 0
    | _ => 0
  [BitVec.ofNat 8 n.val, match x.state with
    | .idle => 0
    | .settling => 1
    | .measuring => 2
    | .locked => 3
    | .failed => 4] ++
    opt u24 x.carrier ++ opt u16 x.n0 ++ [BitVec.ofInt 8 x.offset] ++
    (match x.n0 with
      | none => [0, 0]
      | some n0 =>
        let d := ((n0 : Int) + x.offset).toNat
        1 :: u16 d ++ 1 :: (u16 (d / 32) ++ u16 (d % 32))) ++
    u8 x.corrections ++
    (match x.lastCount with
      | none => [0]
      | some .overflow => [1, 0xFF, 0xFF, 0xFF]
      | some (.count c) => 1 :: u24 c) ++
    (match x.reason with
      | none => [0]
      | some .noLock => [1, 0]
      | some .noCarrier => [1, 1]
      | some .offFrequency => [1, 2]) ++
    u8 (serves 0 + serves 1 + serves 2 + serves 3) ++
    (match x.carrier with
      | none => [0]
      | some c =>
        [1, BitVec.ofInt 8 (125 * ((16 * (c + s.tp.ifKHz) + 500) / 1000 : Nat) - 2 * (c + s.tp.ifKHz : Nat))]) ++
    u24 s.tp.ifKHz

/-- Every field of R135. -/
def State.profileFields (s : State) (p : ProfileId) : List Byte :=
  let v := s.pc.profiles[p]
  let bound (o : OutputId) : Nat := if s.pc.bindings[o] = p then 2 ^ o.val else 0
  [BitVec.ofNat 8 v.ceiling, if v.blockUnrated then 1 else 0, BitVec.ofNat 8 v.blocked.toNat,
    if v.purchasePin then 1 else 0] ++
    (match v.window with
      | none => [0]
      | some w => 1 :: (u16 w.opens ++ u16 w.closes)) ++
    (BitVec.ofNat 8 v.locked.length :: (v.locked.map u16).flatten) ++
    u8 (bound 0 + bound 1 + bound 2 + bound 3)

/-- An entry of QUERY MAP, with every field of R1. -/
def entryFields (e : MapEntry) : List Byte :=
  u16 e.channel ++ u24 e.carrier ++ [BitVec.ofNat 8 e.slot.val, if e.scrambled then 1 else 0] ++
    (match e.access with
      | .free => [0, 0]
      | .tier k => [1, 1, BitVec.ofNat 8 k.val]
      | .pay => [2, 0]) ++
    (BitVec.ofNat 8 e.label.length :: e.label)

/-- A record of QUERY PURCHASES (R115). -/
def purchaseFields (p : Purchase) : List Byte :=
  u32 p.seq ++ u16 p.service ++ u16 p.eventId ++ u32 p.start ++ u32 p.finish ++ u8 p.price ++ u32 p.minute ++
    (match p.state with
      | .pending => ([0] : List Byte)
      | .opened => [1]
      | .reported => [2])

/-- The known flag, and the day and second of day where time is known (R66, R194). -/
def clockFields : Option WallClock → List Byte
  | none => [0, 0, 0]
  | some c => [1, 1] ++ u16 c.day ++ 1 :: u24 c.second

/-- PIN state, attempt counter and lockout minutes (R124, R143). -/
def pinFields (r : PinRecord) : List Byte :=
  [if 0 < r.lockout then 2 else if r.pin = none then 0 else 1, BitVec.ofNat 8 r.attempts,
    BitVec.ofNat 8 r.lockout]

/-- Credit limit, and credit used (R99). -/
def State.creditFields (s : State) : List Byte :=
  u16 s.ep.ent.limit ++
    u16 ((s.ep.log.filter fun p => p.state = .pending ∨ p.state = .opened).map Purchase.price).sum

/-- Mode and polarities (R182, R183). -/
def portFields (f : FeedSetup) : List Byte :=
  [match f.mode with
    | .strobe => 0
    | .leading => 1
    | .trailing => 2,
    if f.fstb = .activeHigh then 0 else 1, if f.fack = .activeHigh then 0 else 1]

/-- The snapshots of R200's table. -/
def State.noticeFields (s : State) : Notice → List Byte
  | .ready =>
    (match s.cl.cause with
      | .powerOn => ([0] : List Byte)
      | .resetLine => [1]
      | .restart => [2]) ++
      (match readRecord s.ss.records.identity with
        | some i => u8 i.revision
        | none => ([0] : List Byte)) ++
      [if s.tb.clock = none then 0 else 1] ++ opt u8 s.cm.committed.version
  | .pinLockout => pinFields s.pc.record
  | .outputState o => recordFields s.ae[o]
  | .tunerFault n => s.tunerFields n
  | .purchaseDone => opt u32 s.ep.lastCompleted ++ u8 s.ep.log.length ++ s.creditFields
  | .logNearFull => u8 s.ep.log.length ++ u8 (s.ep.log.filter fun p => p.state = .reported).length
  | .entitlement =>
    u8 (if s.ep.ent.unitState = .active then 0 else 1) ++ s.creditFields ++ u8 s.ep.log.length ++
      u8 ((List.finRange 64).filter fun k : TierId => s.ep.ent.tiers[k].held &&
        match s.tb.clock with
        | none => true
        | some c => decide (c.day ≤ s.ep.ent.tiers[k].expiry)).length
  | .mapCommitted => opt u8 s.cm.committed.version ++ u16 s.cm.committed.entries.length
  | .timeSet => clockFields s.tb.clock
  | .guideFull =>
    u16 s.pg.events.length ++ u16 (s.pg.events.map fun e => e.title.length).sum
  | .feedFault =>
    portFields s.hf.setup ++
      (match s.hf.lastFault with
        | none => [0]
        | some .overrun => [1, 0]
        | some .timeout => [1, 1]
        | some .outOfTurn => [1, 2]) ++
      u16 (s.hf.buffer.filter fun x => x ≠ .gap).length ++ [if .gap ∈ s.hf.buffer then 1 else 0]
  | .feedSilent => portFields s.hf.setup ++ u16 s.hf.setup.group ++ [if s.hf.silence then 1 else 0]

/-- Decision, reason and tier are the same; the preview minutes left may differ. -/
def Decision.sameButMinutes : Decision → Decision → Prop
  | .preview _, .preview _ => True
  | a, b => a = b

/-- The five fields of R162 are the same in both records: decision, reason, tier, evaluated channel and
evaluated route. -/
abbrev DecisionRecord.SameToTheHost (a b : DecisionRecord) : Prop :=
  a.decision.sameButMinutes b.decision ∧ a.channel = b.channel ∧ a.route = b.route

/-- The commands that put every block, or every volatile state, back: a reset of any kind, or the loss of
supply. REPLY_SENT is one while RESTART's reply waits. -/
def State.mayReset (s : State) : Instr → Bool
  | .powerOn | .powerLoss | .resetLineRelease => true
  | .replySent => s.cl.stopped
  | _ => false

/-! #### Requests that carry a PIN (R125, R128) -/

/-- A PIN field on the link: its count, then its digits (chapter 10). -/
def pinField (d : List Nat) : List Byte := BitVec.ofNat 8 d.length :: d.map (BitVec.ofNat 8)

/-- An absent field, or 4 to 8 digits from 0 to 9 (R100, R128). -/
abbrev PinForm (d : List Nat) : Prop := d = [] ∨ (4 ≤ d.length ∧ d.length ≤ 8 ∧ ∀ x ∈ d, x ≤ 9)

/-- What PC accepts in ARMED: the PIN, or a master PIN that the level admits for the request (R125). -/
abbrev PinRecord.Accepts (r : PinRecord) (forClear : Bool) (d : List Nat) : Prop :=
  d ≠ [] ∧ (r.pin = some d ∨ (r.master = some d ∧ (r.level = .high ∨ forClear = true)))

/-- The record after an accepted PIN, or in UNSET, where nothing is judged (R125, R126). -/
def PinRecord.accepted (r : PinRecord) : PinRecord :=
  if 0 < r.lockout ∨ r.pin = none then r else { r with attempts := 0 }

/-- Numbers a PIN field can carry, well formed or not: a count and digits of one byte each. -/
abbrev PinBytes (d : List Nat) : Prop := d.length < 256 ∧ ∀ x ∈ d, x < 256

/-- A field that a request which needs no PIN in UNSET may carry and be taken (R128). -/
abbrev State.Authorises (s : State) (d : List Nat) : Prop :=
  s.pinState = .unset ∨ (s.pinState = .armed ∧ s.pc.record.Accepts false d)

/-- The bytes of a PROFILE SET body in the order of the request table, whatever they hold. -/
def profileSetBytes (p ceiling unrated content purchase window : Byte) (opens closes : Nat)
    (channels d : List Nat) : List Byte :=
  [p, ceiling, unrated, content, purchase, window] ++ u16 opens ++ u16 closes ++
    (BitVec.ofNat 8 channels.length :: (channels.map u16).flatten) ++ pinField d

/-- The body that carries profile `v`; with the window absent, the from and to are `idle`'s and are
disregarded (chapter 10, below the request table). -/
def profileSetBody (p : ProfileId) (v : Profile) (idle : Window) (channels d : List Nat) : List Byte :=
  profileSetBytes (BitVec.ofNat 8 p.val) (BitVec.ofNat 8 v.ceiling) (if v.blockUnrated then 1 else 0)
    (BitVec.ofNat 8 v.blocked.toNat) (if v.purchasePin then 1 else 0) (if v.window.isSome then 1 else 0)
    (v.window.getD idle).opens (v.window.getD idle).closes channels d

/-- The fields PROFILE SET accepts (R132). -/
abbrev ProfileForm (v : Profile) (channels : List Nat) : Prop :=
  v.ceiling ≤ 6 ∧ (∀ w ∈ v.window, w.opens ≤ 1439 ∧ w.closes ≤ 1439 ∧ w.opens ≠ w.closes) ∧
    channels.length ≤ 16 ∧ ∀ c ∈ channels, 1 ≤ c ∧ c ≤ 999

/-- A request that has reached its PIN check, with the field it carries: PIN SET, PIN CLEAR, PROFILE SET
and BIND past the frozen check (R128), PIN ENTER past its first three (R136). -/
def State.PinBearing (s : State) (c : Instr) (r : Request) (d : List Nat) : Prop :=
  PinForm d ∧
    ((c = .pinSet ∧ r.kind = 0x40 ∧ s.pc.frozen = false ∧
        ∃ new, new.length = 4 ∧ (∀ x ∈ new, x ≤ 9) ∧ r.body = pinField new ++ pinField d) ∨
      (c = .pinClear ∧ r.kind = 0x41 ∧ s.pc.frozen = false ∧ r.body = pinField d) ∨
      (c = .profileSet ∧ r.kind = 0x44 ∧ s.pc.frozen = false ∧
        ∃ p v idle channels, ProfileForm v channels ∧ r.body = profileSetBody p v idle channels d) ∨
      (c = .bind ∧ r.kind = 0x46 ∧ s.pc.frozen = false ∧
        ∃ (o : OutputId) (p : ProfileId),
          r.body = [BitVec.ofNat 8 o.val, BitVec.ofNat 8 p.val] ++ pinField d) ∨
      (c = .pinEnter ∧ r.kind = 0x42 ∧ (∃ p : OutputId, s.ou[p].mode = .active) ∧
        ∃ o : OutputId, (∃ why, s.ae[o].decision = .blockedParental why) ∧ s.ou[o].channel.isSome ∧
          ((r.body = [BitVec.ofNat 8 o.val, 0] ++ pinField d ∧ (s.currentOf o).isSome) ∨
            r.body = [BitVec.ofNat 8 o.val, 1] ++ pinField d)))

/-- The rows of the request table, and UNKNOWN_REQUEST: what the request handler serves (R190). -/
def requestRows : List Instr :=
  [.unknownRequest, .ident, .status, .restart, .mask, .take, .wake, .standby, .select, .step, .queryOutput,
    .queryTuner, .tunerSetup, .queryMap, .queryGuide, .queryTitle, .buy, .queryPurchases, .queryTiers,
    .pinSet, .pinClear, .pinEnter, .freeze, .profileSet, .queryProfile, .bind, .feedSetup]

/-! #### Packet bodies on the feed (section 9.3) -/

/-- One MAP entry's bytes. -/
def wireEntry (r : RawEntry) : List Byte :=
  u16 r.channel ++ u24 r.carrier ++ u8 r.slot ++ u8 (r.classCode + if r.scrambled then 128 else 0) ++
    u8 r.tier ++ (BitVec.ofNat 8 r.label.length :: r.label)

/-- The values those bytes can carry. -/
abbrev RawEntry.Fits (r : RawEntry) : Prop :=
  r.channel < 65536 ∧ r.carrier < 16777216 ∧ r.slot < 256 ∧ r.classCode < 4 ∧ r.tier < 256 ∧
    r.label.length < 256

/-- One GUIDE event's bytes. -/
def wireEvent (r : RawEvent) : List Byte :=
  u16 r.eventId ++ u16 r.day ++ u16 r.minute ++ u16 r.duration ++ u8 r.rating ++ [r.flags] ++ u8 r.price ++
    u8 r.preview ++ (BitVec.ofNat 8 r.title.length :: r.title)

/-- The values those bytes can carry. -/
abbrev RawEvent.Fits (r : RawEvent) : Prop :=
  r.eventId < 65536 ∧ r.day < 65536 ∧ r.minute < 65536 ∧ r.duration < 65536 ∧ r.rating < 256 ∧
    r.price < 256 ∧ r.preview < 256 ∧ r.title.length < 256

/-- The entry that a taken segment makes of a channel, over the entries a collection holds: its own last
one, or the one held, unless that came with an earlier copy of the segment (R9). -/
def RawSegment.found (g : RawSegment) (held : List StagedEntry) (ch : Nat) : Option StagedEntry :=
  match (g.entries.filterMap RawEntry.intake).reverse.find? fun e => e.channel == ch with
  | some e => some ⟨e, g.number⟩
  | none => held.find? fun x => x.entry.channel == ch && x.segment != g.number

/-- What the collection in progress holds for a segment: nothing where the segment starts a new one (R7,
R8). -/
def State.collected (s : State) (g : RawSegment) : List Nat × List StagedEntry :=
  match s.cm.staging with
  | some st => if st.version = g.version ∧ st.count = g.count then (st.received, st.entries) else ([], [])
  | none => ([], [])

/-- The address filter's tests on kind, address mode and address (R179, section 9.3). -/
abbrev AddressedHere (kind mode : Byte) (address group unit : Nat) : Prop :=
  ((kind = 0x10 ∧ mode = 0) ∨ ((kind = 0x20 ∨ kind = 0x30) ∧ (mode = 0 ∨ mode = 1)) ∨
    ((kind = 0x40 ∨ kind = 0x41) ∧ (mode = 1 ∨ mode = 2)) ∨
    (kind ∈ ([0x42, 0x43, 0x44, 0x45, 0x50, 0x51] : List Byte) ∧ mode = 2)) ∧
  (mode = 1 → group ≠ 65535 ∧ address % 65536 = group) ∧ (mode = 2 → address = unit)

/-- There is room in the guide for one record more with a title of `n` bytes (R78). -/
abbrev GuideRoom (held : List GuideEvent) (n : Nat) : Prop :=
  held.length < 1536 ∧ n + (held.map fun e => e.title.length).sum ≤ 32768

/-- `a` leaves before `b` under R78: later start, or the same start and higher service. -/
abbrev GuideEvent.LeavesBefore (a b : GuideEvent) : Prop :=
  b.start < a.start ∨ (a.start = b.start ∧ b.service < a.service)

/-! #### A minute (R82, R111, R127, R139) -/

/-- What a minute event makes of the guide, the purchase log, the PIN record and the passes, before the
evaluations. -/
def State.afterMinute (s : State) : State :=
  { s with
    pg := { events := s.pg.events.filter fun e => match s.now with
      | none => true
      | some n => decide (n < e.start + e.duration) }
    ep := { s.ep with log := s.ep.log.filter fun p => match s.now with
      | none => true
      | some n => decide (p.state ≠ .reported ∨ n < p.finish) }
    pc := { s.pc with
      record :=
        if s.pc.record.lockout = 0 then s.pc.record
        else { s.pc.record with
          lockout := s.pc.record.lockout - 1
          attempts := if s.pc.record.lockout = 1 then 0 else s.pc.record.attempts }
      passes := s.pc.passes.map fun p => match p with
        | some (.channel service left) => if left ≤ 1 then none else some (.channel service (left - 1))
        | other => other } }

/-- Every awake output has been evaluated. -/
abbrev State.RoomsDecided (t : State) : Prop := ∀ o : OutputId, t.ou[o].mode = .active → t.Evaluated o

/-- A reset has just been performed (R42, R59, R68, R89, R165, R184, R203, R206, R212): what every block
holds, the load begun. -/
abbrev State.ResetTo (s : State) (cause : ResetCause) (tb : TimeBase) (t : State) : Prop :=
  t.phase = .loading ∧
    t.cl = { parser := .idle, queue := [], transmit := [], stopped := false, latches := 0#17,
             mask := BitVec.allOnes 12, cause := cause } ∧
    (t.hf.buffer = [] ∧ t.hf.assembler = .hunt ∧ t.hf.handshake = false ∧ t.hf.silence = false ∧
      t.hf.lastFault = none ∧ t.fackHigh = true) ∧
    t.tb = tb ∧ t.cm.staging = none ∧
    (∀ u : TunerId, t.tp.tuners[u] = {
      state := .idle, carrier := none, n0 := none, offset := 0, corrections := 0, lastCount := none,
      reason := none }) ∧
    (∀ o : OutputId, t.ou[o] = { mode := .standby, channel := none, attachment := .none }) ∧
    t.pg.events = [] ∧ t.ep.lastCompleted = none ∧
    (t.pc.frozen = false ∧ ∀ o : OutputId, t.pc.passes[o] = none) ∧
    (∀ o : OutputId, t.ae[o] = {
      decision := .off, eventId := none, pass := none, channel := none, route := none,
      picture := false, descramble := false }) ∧
    (t.ss.records = s.ss.records ∧ t.ss.dirty = [] ∧ t.ss.engine = none) ∧
    (∀ o : OutputId, t.pins.picture[o] = false ∧ t.pins.descramble[o] = false) ∧
    t.pending = s.pending

/-- A route word of none has been loaded to every output's switch since `before` (R56, R59). -/
abbrev State.RoutesDark (before t : State) : Prop :=
  ∃ w, t.pins.wave = before.pins.wave ++ w ∧ ∀ o : OutputId, .route o 0b1100 ∈ w

end Sys2Proof.Machine
end

