-- ==== Sys2Proof/Certificates/Slice0/Obligations.lean ====
section
/-! DEFINITION. The statements for the provers. -/

open Sys2Proof Sys2Proof.Machine

/-! ### The machine -/

/-- A step takes the command at the front of the queue and runs it with the queue's rest. -/
def Obligations.StepTakesTheFrontCommand : Prop :=
  ∀ (c : Instr) (rest : List Instr) (s : State),
    step { s with pending := c :: rest } = exec c { s with pending := rest }

/-- The state right after reset keeps every law of Safety.lean (what it holds where the spec gives no
value is the model's choice: logs 3, 4 and 5). -/
def Obligations.ResetStateKeepsEveryLaw : Prop :=
  State.reset.PinLaw ∧ State.reset.DecisionLaw ∧ State.reset.TunerLaw ∧ State.reset.PoolLaw ∧
    State.reset.PinRecordLaw ∧ State.reset.StoreLaw ∧ State.reset.PurchaseLaw ∧ State.reset.MapLaw ∧
    State.reset.GuideLaw ∧ State.reset.FeedLaw ∧ State.reset.LinkLaw

/-! ### Laws that every step keeps -/

/-- At the pins, a descramble gate is on only while its picture gate is, and no route word takes effect
with a gate on: R56, R57, R156, R157. -/
def Obligations.StepsKeepTheGateOrderAtThePins : Prop :=
  ∀ s t : State, s.PinLaw → step s = .next t → t.PinLaw

/-- Every output's record is the decision for the state in force (R148 to R155, R158, R159, R164), the pins
stand as it says (R156), and each pass an output holds matches its channel and, for an EVENT pass, its current
programme: no pass outlives an event that parts them (R137 to R139). -/
def Obligations.StepsKeepDecisionsCurrent : Prop :=
  ∀ s t : State, s.DecisionLaw → step s = .next t → t.DecisionLaw

/-- The tuner records keep the ranges and presences of R17, carrier and N0 among them, the offset stays within
32 steps (R19), and the IF setting within 30,000 to 60,000 kHz (R20, R40); carriers come from a lawful map. -/
def Obligations.StepsKeepTunerRecordsInRange : Prop :=
  ∀ s t : State, s.TunerLaw → s.MapLaw → step s = .next t → t.TunerLaw

/-- R18, R33, R36 to R38 and R44: a tuner is IDLE exactly when it serves no output, no two hold one
carrier, every awake output with a channel is on a tuner of its carrier or waits, and none waits while a
tuner is IDLE or on its carrier; in a map that holds each channel number once. -/
def Obligations.StepsKeepThePoolSound : Prop :=
  ∀ s t : State, s.PoolLaw → s.MapLaw → step s = .next t → t.PoolLaw

/-- The laws of R124 on the attempt counter, the lockout minutes and the PIN; with the decisions current, no
room is BLOCKED_PARENTAL in UNSET (R136). -/
def Obligations.StepsKeepThePinRecordLawful : Prop :=
  ∀ s t : State, s.PinRecordLaw → s.DecisionLaw → step s = .next t → t.PinRecordLaw

/-- The dirty set keeps class order without duplicates, and an IDLE engine leaves nothing dirty (R207,
R208). -/
def Obligations.StepsKeepTheStoreWriting : Prop :=
  ∀ s t : State, s.StoreLaw → step s = .next t → t.StoreLaw

/-- The purchase log holds at most 32 records in ascending number below the next one, no two of one slot
or of one programme (R98), and no number comes to be held twice (R106, R118). -/
def Obligations.StepsKeepThePurchaseLogLawful : Prop :=
  ∀ s t : State, s.PurchaseLaw → step s = .next t → t.PurchaseLaw

/-- The committed map holds at most 256 lawful entries in strictly ascending channel order (R1, R2, R9). -/
def Obligations.StepsKeepTheMapLawful : Prop :=
  ∀ s t : State, s.MapLaw → step s = .next t → t.MapLaw

/-- The guide holds at most 1,536 records and 32,768 title bytes, no two of a service overlapping or of
one id (R69 to R71). -/
def Obligations.StepsKeepTheGuideLawful : Prop :=
  ∀ s t : State, s.GuideLaw → step s = .next t → t.GuideLaw

/-- The feed buffer keeps to 512 bytes (R172), and a packet that waits for its owner is whole, has its CRC
right and is addressed to this unit (R175, R179). -/
def Obligations.StepsKeepHandedPacketsChecked : Prop :=
  ∀ s t : State, s.FeedLaw → step s = .next t → t.FeedLaw

/-- At most 4 requests wait (R189) and at most 8 replies (R191), and no latch is set while the part loads
(R202), in which no write runs (R206). -/
def Obligations.StepsKeepTheLinkWithinItsSizes : Prop :=
  ∀ s t : State, s.LinkLaw → s.StoreLaw → step s = .next t → t.LinkLaw

/-! ### Rules over all commands -/

/-- A stored record changes only at the completion of a write to it (R212), which stores what the write
carried (R210 step 1); IDENTITY is never written (R204). -/
def Obligations.RecordsChangeOnlyAtWriteCompletion : Prop :=
  ∀ (c : Instr) (s t : State), exec c s = .next t →
    (c ≠ .writeCompletion → t.ss.records = s.ss.records) ∧
      (c = .writeCompletion → s.ss.engine = none → t.ss.records = s.ss.records) ∧
      t.ss.records.identity = s.ss.records.identity

/-- A set latch stays set but for a TAKE or a reset (R197), and OUTPUT_STATE comes to be set exactly where the
decision, reason, tier, evaluated channel or evaluated route of the output's record changes (R162). -/
def Obligations.LatchesStayUntilTakenOrReset : Prop :=
  ∀ (c : Instr) (s t : State), exec c s = .next t → c ≠ .take → s.mayReset c = false →
    (∀ n : Notice, s.cl.isSet n = true → t.cl.isSet n = true) ∧
      ∀ o : OutputId, t.cl.isSet (.outputState o) = true ↔
        s.cl.isSet (.outputState o) = true ∨ ¬s.ae[o].SameToTheHost t.ae[o]

/-- While the frozen flag is set, no command but a reset clears it, changes a profile, a binding, or the
PIN, PINRESET apart, which only removes the PIN (R128, R134, R141). -/
def Obligations.FrozenSettingsStand : Prop :=
  ∀ (c : Instr) (s t : State), exec c s = .next t → s.pc.frozen = true → s.mayReset c = false →
    c ≠ .loadEnd →
    t.pc.frozen = true ∧ t.pc.profiles = s.pc.profiles ∧ t.pc.bindings = s.pc.bindings ∧
      (t.pc.record.pin = s.pc.record.pin ∨ (c = .pinreset ∧ t.pc.record.pin = none))

/-- The time moves at second expiries and TIME packets alone, and a RESTART keeps it (R61, R63 to R65,
R68). -/
def Obligations.TimeMovesOnlyWithSecondsAndTimePackets : Prop :=
  ∀ (c : Instr) (s t : State), exec c s = .next t → c ≠ .powerOn → c ≠ .powerLoss →
    c ≠ .resetLineRelease → c ≠ .secondExpiry →
    t.tb.localSeconds = s.tb.localSeconds ∧ (c ≠ .time → t.tb = s.tb)

/-- In the load period no request is served, no packet taken, no byte taken at the port, no tuner event
acted on and no minute event handed on (R62, R184, R202, R206). A part that is held in reset or without supply
ignores LRXD, the LOCKn lines, the expiry of every timer and all else but FSTB's level and what ends that
state; no synthesizer is loaded (R196; without supply: log 14). -/
def Obligations.LoadPeriodServesNothing : Prop :=
  (∀ (c : Instr) (s : State), s.phase = .held ∨ s.phase = .off → s.ss.engine = none → c ≠ .powerOn →
    c ≠ .powerLoss → c ≠ .resetLineRelease →
    ((∀ fd, c ≠ .fstbActiveEdge fd ∧ c ≠ .fstbRelease fd) → exec c s = .next s) ∧
      ∃ t, exec c s = .next t ∧
        t = { s with hf := { s.hf with
          fstbHigh := t.hf.fstbHigh, fackHeld := t.hf.fackHeld, handshake := t.hf.handshake } } ∧
        (s.hf.handshake = false → t.hf.handshake = false)) ∧
  ∀ (c : Instr) (s t : State), s.phase = .loading → s.cl.stopped = false → s.ss.engine = none →
    exec c s = .next t → s.mayReset c = false → c ≠ .resetLineAssert → c ≠ .loadEnd →
    t = { s with tb := t.tb, cl := t.cl, hf := t.hf, pins := t.pins } ∧
      (c ≠ .secondExpiry → t.tb = s.tb) ∧
      (t.hf = { s.hf with fstbHigh := t.hf.fstbHigh, fackHeld := t.hf.fackHeld,
                          handshake := t.hf.handshake } ∧
        (s.hf.handshake = false → t.hf.handshake = false)) ∧
      (t.cl = { s.cl with parser := t.cl.parser, transmit := t.cl.transmit }) ∧
      t.pins.picture = s.pins.picture ∧ t.pins.descramble = s.pins.descramble

/-! ### Reset, supply and load -/

/-- POWER_ON, the release of the RESET line, and the end of RESTART's reply each put every block in the
state its chapter gives for the reset, keep every stored record, load route words of none and begin the
load; RESTART keeps the time (R42, R59, R68, R89, R165, R195, R196, R203, R212). That POWER_ON acts from any
phase is the model's choice (log 14), and so is the second load of the words of none, at the release of the
RESET line, after that of its assertion (log 13). -/
def Obligations.EveryResetKindGivesItsState : Prop :=
  ∀ s : State,
    (∃ t, exec .powerOn s = .next t ∧ s.ResetTo .powerOn ⟨0, none⟩ t ∧ s.RoutesDark t) ∧
      (s.phase = .held →
        ∃ t, exec .resetLineRelease s = .next t ∧ s.ResetTo .resetLine ⟨0, none⟩ t ∧ s.RoutesDark t) ∧
      ∀ r rest, (s.phase = .running ∨ s.phase = .loading) → s.cl.transmit = r :: rest →
        s.cl.stopped = true → r.kind = 0x83 → r.status = .ok →
        ∃ t, exec .replySent s = .next t ∧ s.ResetTo .restart s.tb t ∧ s.RoutesDark t

/-- The RESET line's assertion cuts off the reply on LTXD, which then rests high, stops the timers, abandons a
write, darkens every room and drives FACK high and ATTN inactive (R196, R211, R212); a loss of supply keeps
the stored records and no write (R211). How far the reply has been sent is open (log 24), and what else a loss
of supply leaves is the model's (log 14). -/
def Obligations.ResetAssertionAndPowerLossStopThePart : Prop :=
  ∀ s : State,
    ((s.phase = .loading ∨ s.phase = .running) →
      ∃ t, exec .resetLineAssert s = .next t ∧ t.phase = .held ∧ t.attn = false ∧ t.fackHigh = true ∧
        t.ltxdRests = true ∧
        (∀ r rest, s.cl.transmit = r :: rest → ∃ sent, s.Drives t (.replyCut
          ([0x7E, BitVec.ofNat 8 r.body.length, r.kind, r.tag, BitVec.ofNat 8 r.status.code] ++ r.body)
          sent)) ∧
        (∀ o : OutputId, t.pins.picture[o] = false ∧ t.pins.descramble[o] = false) ∧ s.RoutesDark t ∧
        t.hf.handshake = false ∧ t.hf.silence = false ∧ t.ss.records = s.ss.records ∧ t.ss.dirty = [] ∧
        t.ss.engine = none ∧ t.pending = s.pending) ∧
      (s.phase ≠ .off →
        ∃ t, exec .powerLoss s = .next t ∧ t.phase = .off ∧ t.ss.records = s.ss.records ∧
          t.ss.engine = none ∧ t.attn = false ∧
          (∀ o : OutputId, t.pins.picture[o] = false ∧ t.pins.descramble[o] = false) ∧
          t.pending = s.pending)

/-- At the load end each owner takes its record, or the defaults of R205 where it is blank, never written or
with a check value that does not match (R204; log 23); the port opens, READY is latched, and nothing else
changes (R15, R42, R117, R145, R185, R202, R205, R206). The log and the next number are stated apart. -/
def Obligations.LoadEndTakesTheStoredState : Prop :=
  ∀ s : State, s.phase = .loading →
    ∃ t, exec .loadEnd s = .next t ∧ t.phase = .running ∧
      t.cl = { s.cl with latches := s.cl.latches ||| 1#17 } ∧
      t.hf = { s.hf with silence := true, setup := t.hf.setup } ∧
      TakesRecord s.ss.records.feedSetup
        { mode := .leading, fstb := .activeLow, fack := .activeLow, group := 65535 } t.hf.setup ∧
      t.cm.staging = none ∧
      TakesRecord s.ss.records.map { entries := [], version := none } t.cm.committed ∧
      t.tp = { s.tp with ifKHz := t.tp.ifKHz } ∧ TakesRecord s.ss.records.tunerSetup 45750 t.tp.ifKHz ∧
      t.pc = { s.pc with profiles := t.pc.profiles, bindings := t.pc.bindings, record := t.pc.record } ∧
      (∀ p : ProfileId, TakesRecord s.ss.records.profiles[p]
        { ceiling := 6, blockUnrated := false, blocked := 0, purchasePin := false, window := none,
          locked := [] } t.pc.profiles[p]) ∧
      TakesRecord s.ss.records.bindings (Vector.replicate 4 0) t.pc.bindings ∧
      TakesRecord s.ss.records.pin
        { pin := none, master := none, level := .high, attempts := 0, lockout := 0 } t.pc.record ∧
      TakesRecord s.ss.records.entitlements
        { tiers := Vector.replicate 64 { held := false, expiry := 0 }, limit := 0, unitState := .active }
        t.ep.ent ∧
      t.ep.lastCompleted = none ∧ t.ss.records = s.ss.records ∧
      t = { s with phase := t.phase, cl := t.cl, hf := t.hf, cm := t.cm, tp := t.tp, pc := t.pc,
                   ep := t.ep, ss := t.ss }

/-- The reconciliation of R118: where the stored numbers all differ, the log is the stored records that no
other of the same programme outnumbers, each in the slot it was read from, REPORTED where the
acknowledged-through number covers an OPEN one, in ascending order. The slots so changed await their writes,
and no other record does (R118 steps 1 and 2, R206 step 4); and where a kept number is at or above the next
number, the next number becomes the highest kept number plus 1. -/
def Obligations.LoadReconcilesThePurchases : Prop :=
  ∀ s t : State, s.phase = .loading →
    let held (k : SlotId) : Option Purchase := readRecord s.ss.records.slots[k]
    let seq : Sequence := (readRecord s.ss.records.sequence).getD { next := 1, acked := 0 }
    let late (p : Purchase) : Prop := p.state = .opened ∧ p.seq ≤ seq.acked
    let outnumbered (k : SlotId) (p : Purchase) : Prop := ∃ j : SlotId, j ≠ k ∧ ∃ q ∈ held j,
      q.service = p.service ∧ q.eventId = p.eventId ∧ p.seq < q.seq
    (∀ j k : SlotId, j ≠ k → ∀ p ∈ held j, ∀ q ∈ held k, p.seq ≠ q.seq) →
    exec .loadEnd s = .next t →
    (∀ x : Purchase, x ∈ t.ep.log ↔ ∃ k : SlotId, ∃ p, held k = some p ∧ ¬outnumbered k p ∧
      ((late p ∧ x = { p with slot := k, state := .reported }) ∨ (¬late p ∧ x = { p with slot := k }))) ∧
      t.ep.log.Pairwise (fun a b => a.seq < b.seq) ∧
      (∀ k p, held k = some p → late p ∨ outnumbered k p → t.awaitsWrite (.slot k)) ∧
      (s.ss.engine = none → s.ss.dirty = [] → ∀ r, t.awaitsWrite r →
        ∃ k p, r = .slot k ∧ held k = some p ∧ (late p ∨ outnumbered k p)) ∧
      t.ep.seq.acked = seq.acked ∧
      ((∀ x ∈ t.ep.log, x.seq < seq.next) → t.ep.seq.next = seq.next) ∧
      ((∃ x ∈ t.ep.log, seq.next ≤ x.seq) →
        ∃ x ∈ t.ep.log, t.ep.seq.next = x.seq + 1 ∧ ∀ y ∈ t.ep.log, y.seq ≤ x.seq)

/-! ### The control link -/

/-- The parser's table and its discards, with nothing else touched (R187, R188); completed frames are
stated apart. -/
def Obligations.ParserTakesCharactersAndDiscards : Prop :=
  ∀ s : State, s.phase = .running ∨ s.phase = .loading →
    let goes (p : Parser) : Host.Outcome State Fault Refusal := .next { s with cl := { s.cl with parser := p } }
    exec (.characterReceived .framingError) s = goes .idle ∧ exec .gapTimerExpiry s = goes .idle ∧
      ∀ b : Byte,
        (s.cl.parser = .idle →
          exec (.characterReceived (.byte b)) s = goes (if b = 0x7E then .length else .idle)) ∧
        (s.cl.parser = .length →
          exec (.characterReceived (.byte b)) s = goes (if b.toNat ≤ 250 then .kind b.toNat else .idle)) ∧
        (∀ len, s.cl.parser = .kind len → exec (.characterReceived (.byte b)) s = goes (.tag len b)) ∧
        (∀ len k, s.cl.parser = .tag len k → 0 < len →
          exec (.characterReceived (.byte b)) s = goes (.body len k b [])) ∧
        ∀ len k g got, s.cl.parser = .body len k g got → got.length + 1 < len →
          exec (.characterReceived (.byte b)) s = goes (.body len k g (got ++ [b]))

/-- A completed frame joins the queue, or is answered BUSY at once in the load period or with 4 requests
waiting, or is discarded where the transmit list then holds 8 replies (R189). -/
def Obligations.CompletedFramesAreQueuedOrBusy : Prop :=
  ∀ (s : State) (b : Byte) (r : Request), s.phase = .running ∨ s.phase = .loading →
    ((∃ k, s.cl.parser = .tag 0 k ∧ r = ⟨k, b, []⟩) ∨
      ∃ len k g got, s.cl.parser = .body len k g got ∧ len = got.length + 1 ∧ r = ⟨k, g, got ++ [b]⟩) →
    (s.phase = .running → s.cl.queue.length < 4 →
      exec (.characterReceived (.byte b)) s =
        .next { s with cl := { s.cl with parser := .idle, queue := s.cl.queue ++ [r] } }) ∧
    (s.phase = .loading ∨ 4 ≤ s.cl.queue.length → s.cl.transmit.length < 8 →
      exec (.characterReceived (.byte b)) s =
        .next { s with cl := { s.cl with
          parser := .idle
          transmit := s.cl.transmit ++ [⟨r.kind ||| 0x80, r.tag, .busy, []⟩] } }) ∧
    (s.phase = .loading ∨ 4 ≤ s.cl.queue.length → 8 ≤ s.cl.transmit.length →
      exec (.characterReceived (.byte b)) s = .next { s with cl := { s.cl with parser := .idle } })

/-- The oldest reply is sent as the frame of section 10.1 and leaves the list; nothing else changes unless
it is RESTART's (R191). -/
def Obligations.RepliesLeaveInOrder : Prop :=
  ∀ (s : State) (r : Reply) (rest : List Reply), (s.phase = .running ∨ s.phase = .loading) →
    s.cl.transmit = r :: rest → (s.cl.stopped = false ∨ r.kind ≠ 0x83 ∨ r.status ≠ .ok) →
    exec .replySent s = .next { s with
      cl := { s.cl with transmit := rest }
      pins := { s.pins with wave := s.pins.wave ++
        [.reply ([0x7E, BitVec.ofNat 8 r.body.length, r.kind, r.tag, BitVec.ofNat 8 r.status.code] ++
          r.body)] } }

/-- A kind outside the request table is answered UNKNOWN, and a body that does not fit BAD_LENGTH; nothing
else changes (R190 steps 1 and 2). -/
def Obligations.UnknownKindsAndBadLengthsAreRefused : Prop :=
  ∀ (s : State) (r : Request) (rest : List Request), s.Serves r rest →
    (r.kind ∉ ([0x01, 0x02, 0x03, 0x04, 0x05, 0x10, 0x11, 0x12, 0x13, 0x14, 0x15, 0x16, 0x20, 0x21, 0x22,
        0x30, 0x31, 0x32, 0x40, 0x41, 0x42, 0x43, 0x44, 0x45, 0x46, 0x50] : List Byte) →
      exec .unknownRequest s = .next (s.answered r rest .unknown [])) ∧
    (∀ row ∈ ([(.ident, 0x01, 0), (.status, 0x02, 0), (.restart, 0x03, 0), (.mask, 0x04, 2),
        (.take, 0x05, 0), (.wake, 0x10, 0), (.standby, 0x11, 0), (.select, 0x12, 3), (.step, 0x13, 2),
        (.queryOutput, 0x14, 1), (.queryTuner, 0x15, 1), (.tunerSetup, 0x16, 3), (.queryMap, 0x20, 3),
        (.queryGuide, 0x21, 7), (.queryTitle, 0x22, 4), (.queryPurchases, 0x31, 5), (.queryTiers, 0x32, 0),
        (.freeze, 0x43, 0), (.queryProfile, 0x45, 1), (.feedSetup, 0x50, 3)] : List (Instr × Byte × Nat)),
      r.kind = row.2.1 → r.body.length ≠ row.2.2 →
        exec row.1 s = .next (s.answered r rest .badLength [])) ∧
    (r.kind = 0x30 → (¬∃ o n d, r.body = o :: n :: d ∧ d.length = n.toNat) →
      exec .buy s = .next (s.answered r rest .badLength [])) ∧
    (r.kind = 0x41 → (¬∃ n d, r.body = n :: d ∧ d.length = n.toNat) →
      exec .pinClear s = .next (s.answered r rest .badLength [])) ∧
    (r.kind = 0x42 → (¬∃ o c n d, r.body = o :: c :: n :: d ∧ d.length = n.toNat) →
      exec .pinEnter s = .next (s.answered r rest .badLength [])) ∧
    (r.kind = 0x46 → (¬∃ o p n d, r.body = o :: p :: n :: d ∧ d.length = n.toNat) →
      exec .bind s = .next (s.answered r rest .badLength [])) ∧
    (r.kind = 0x40 → (¬∃ n d m c, r.body = n :: (d ++ m :: c) ∧ d.length = n.toNat ∧ c.length = m.toNat) →
      exec .pinSet s = .next (s.answered r rest .badLength [])) ∧
    (r.kind = 0x44 →
      (¬∃ h k l n d, r.body = h ++ k :: (l ++ n :: d) ∧ h.length = 10 ∧ l.length = 2 * k.toNat ∧
        d.length = n.toNat) →
      exec .profileSet s = .next (s.answered r rest .badLength []))

/-- IDENT's and STATUS's replies, field by field, with nothing else changed (R193, R194, coded as R192
states); IDENTITY is blank where it was never written or its check value does not match (R204, R205). -/
def Obligations.IdentAndStatusReplyTheirFields : Prop :=
  ∀ (s : State) (r : Request) (rest : List Request), s.Serves r rest → r.body = [] →
    (r.kind = 0x01 → ∃ i : Identity,
      TakesRecord s.ss.records.identity { unitAddress := 4294967295, revision := 0 } i ∧
        exec .ident s = .next (s.answered r rest .ok
          ([0x53, 0x01, 0x54] ++ u8 i.revision ++ u32 i.unitAddress ++ u16 s.hf.setup.group))) ∧
    (r.kind = 0x02 →
      exec .status s = .next (s.answered r rest .ok
        ((match s.tb.clock with
            | none => ([0x00, 0x00, 0x00] : List Byte)
            | some c => [0x01, 0x01] ++ u16 c.day ++ [0x01] ++ u24 c.second) ++
          (match s.ep.ent.unitState with
            | .active => ([0x00] : List Byte)
            | .disconnected => [0x01]) ++
          (if 0 < s.pc.record.lockout then ([0x02] : List Byte)
            else if s.pc.record.pin = none then [0x00] else [0x01]) ++
          u8 s.pc.record.attempts ++ u8 s.pc.record.lockout ++
          ([if s.pc.frozen then 0x01 else 0x00] : List Byte) ++
          u16 s.ep.ent.limit ++
          u16 ((s.ep.log.filter fun p => p.state = .pending ∨ p.state = .opened).map Purchase.price).sum ++
          u8 s.ep.log.length ++
          (match s.cm.committed.version with
            | none => ([0x00] : List Byte)
            | some v => 0x01 :: u8 v) ++
          [BitVec.ofNat 8 s.tp.tuners[0].state.code, BitVec.ofNat 8 s.tp.tuners[1].state.code,
            BitVec.ofNat 8 s.tp.tuners[2].state.code,
            BitVec.ofNat 8 s.ae[0].decision.code, BitVec.ofNat 8 s.ae[1].decision.code,
            BitVec.ofNat 8 s.ae[2].decision.code, BitVec.ofNat 8 s.ae[3].decision.code] ++
          u24 s.cl.latches.toNat ++ u16 s.cl.mask.toNat)))

/-- QUERY OUTPUT, QUERY TUNER, QUERY PROFILE and QUERY TITLE answer with every field of their owners' records
as they stand, or refuse, and change nothing (R41, R58, R88, R135, R146, coded as R192 states and log 9
reads). -/
def Obligations.RecordQueriesReplyAndChangeNothing : Prop :=
  ∀ (s : State) (r : Request) (rest : List Request), s.Serves r rest →
    (r.kind = 0x14 →
      (∀ o : OutputId, r.body = [BitVec.ofNat 8 o.val] →
        exec .queryOutput s = .next (s.answered r rest .ok
          ([BitVec.ofNat 8 o.val, match s.ou[o].mode with
              | .standby => 0x00
              | .active => 0x01] ++
            opt u16 s.ou[o].channel ++
            (match s.ou[o].attachment with
              | .tuner t sl => [BitVec.ofNat 8 t.val, 0x01, BitVec.ofNat 8 t.val, BitVec.ofNat 8 sl.val]
              | .waiting => [0x03, 0x00]
              | .none => [0x04, 0x00]) ++
            passFields s.pc.passes[o] ++ recordFields s.ae[o]))) ∧
      ∀ v : Byte, 3 < v.toNat → r.body = [v] →
        exec .queryOutput s = .next (s.answered r rest .badField [])) ∧
    (r.kind = 0x15 →
      (∀ n : TunerId, r.body = [BitVec.ofNat 8 n.val] →
        exec .queryTuner s = .next (s.answered r rest .ok (s.tunerFields n))) ∧
      ∀ v : Byte, 2 < v.toNat → r.body = [v] →
        exec .queryTuner s = .next (s.answered r rest .badField [])) ∧
    (r.kind = 0x45 →
      (∀ p : ProfileId, r.body = [BitVec.ofNat 8 p.val] →
        exec .queryProfile s = .next (s.answered r rest .ok (s.profileFields p))) ∧
      ∀ v : Byte, 3 < v.toNat → r.body = [v] →
        exec .queryProfile s = .next (s.answered r rest .badField [])) ∧
    (r.kind = 0x22 → ∀ service eventId, r.body = u16 service ++ u16 eventId → service < 65536 →
      eventId < 65536 →
      (service = 0 ∨ 999 < service ∨ eventId = 0 →
        exec .queryTitle s = .next (s.answered r rest .badField [])) ∧
      (1 ≤ service → service ≤ 999 → 1 ≤ eventId →
        (∀ e, s.pg.record service eventId = some e →
          exec .queryTitle s =
            .next (s.answered r rest .ok (BitVec.ofNat 8 e.title.length :: e.title))) ∧
        (s.pg.record service eventId = none →
          exec .queryTitle s = .next (s.answered r rest .noEvent []))))

/-- QUERY MAP, QUERY GUIDE and QUERY PURCHASES answer a page that fits a frame and names the item that
follows it, and change nothing (R14, R87, R115, R192). -/
def Obligations.PageQueriesReplyAPageThatFits : Prop :=
  ∀ (s : State) (r : Request) (rest : List Request), s.Serves r rest →
    (r.kind = 0x20 → ∀ first count, r.body = u16 first ++ u8 count → first < 65536 → count < 256 →
      (first = 0 ∨ 999 < first ∨ count = 0 →
        exec .queryMap s = .next (s.answered r rest .badField [])) ∧
      (1 ≤ first → first ≤ 999 → 1 ≤ count → ∃ body,
        exec .queryMap s = .next (s.answered r rest .ok body) ∧
        PageOf (s.cm.committed.entries.filter fun e => first ≤ e.channel) (min count 16)
          (fun got next => opt u8 s.cm.committed.version ++ u16 s.cm.committed.entries.length ++
            (BitVec.ofNat 8 got.length :: (got.map entryFields).flatten) ++
            opt (fun e => u16 e.channel) next) body)) ∧
    (r.kind = 0x21 → ∀ service minute count, r.body = u16 service ++ u32 minute ++ u8 count →
      service < 65536 → minute < 4294967296 → count < 256 →
      (service = 0 ∨ 999 < service ∨ 94371839 < minute ∨ count = 0 →
        exec .queryGuide s = .next (s.answered r rest .badField [])) ∧
      (1 ≤ service → service ≤ 999 → minute ≤ 94371839 → 1 ≤ count → ∃ body,
        exec .queryGuide s = .next (s.answered r rest .ok body) ∧
        PageOf ((s.pg.events.filter fun e => e.service == service).filter fun e => minute < e.finish)
          (min count 16)
          (fun got next => u16 service ++ u16 (s.pg.events.filter fun e => e.service == service).length ++
            (BitVec.ofNat 8 got.length :: (got.map fun e => u16 e.eventId ++ u32 e.start ++ u16 e.duration ++
              [BitVec.ofNat 8 e.rating, BitVec.ofNat 8 e.flags.toNat, BitVec.ofNat 8 e.price,
                BitVec.ofNat 8 e.preview, BitVec.ofNat 8 e.title.length]).flatten) ++
            opt (fun e => u32 e.start) next) body)) ∧
    (r.kind = 0x31 → ∀ start count, r.body = u32 start ++ u8 count → start < 4294967296 → count < 256 →
      (start = 0 ∨ count = 0 → exec .queryPurchases s = .next (s.answered r rest .badField [])) ∧
      (1 ≤ start → 1 ≤ count → ∃ body,
        exec .queryPurchases s = .next (s.answered r rest .ok body) ∧
        PageOf (s.ep.log.filter fun p => start ≤ p.seq) (min count 8)
          (fun got next => u8 s.ep.log.length ++ u16 s.ep.ent.limit ++ u16 s.ep.creditUsed ++
            u32 s.ep.seq.next ++ (BitVec.ofNat 8 got.length :: (got.map purchaseFields).flatten) ++
            opt (fun p => u32 p.seq) next) body))

/-- QUERY TIERS answers 149 bytes: at bit k of the first set whether tier k is held, of the second
whether it is effective (R90), then the expiry days, limit, credit used and unit state (R116, R192). -/
def Obligations.QueryTiersRepliesEveryTier : Prop :=
  ∀ (s : State) (r : Request) (rest : List Request), s.Serves r rest → r.kind = 0x32 → r.body = [] →
    ∃ held effective : BitVec 64, ∃ days : List Byte,
      exec .queryTiers s = .next (s.answered r rest .ok
        (uBytes 8 held.toNat ++ uBytes 8 effective.toNat ++ days ++ u16 s.ep.ent.limit ++
          u16 s.ep.creditUsed ++ u8 s.ep.ent.unitState.code)) ∧
      days.length = 128 ∧
      ∀ k : TierId, held.getLsbD k.val = s.ep.ent.tiers[k].held ∧
        effective.getLsbD k.val = (s.ep.ent.tiers[k].held &&
          match s.tb.clock with
          | none => true
          | some c => decide (c.day ≤ s.ep.ent.tiers[k].expiry)) ∧
        (days.drop (2 * k.val)).take 2 = u16 s.ep.ent.tiers[k].expiry

/-- MASK replaces the mask by bits 0 to 11 (R198); TAKE returns the set unmasked latch of lowest index
with its snapshot, every field of R200's table, and clears it alone, or NONE (R200; the coding as log 9
reads it); RESTART is answered OK and stops the handler (R195). With the handler stopped, with no request
queued, or with 8 replies waiting, no request row takes a request (R190, R195). -/
def Obligations.MaskTakeAndRestartAreServed : Prop :=
  (∀ (s : State), ∀ c ∈ requestRows, s.cl.stopped = true ∨ s.cl.queue = [] ∨ 8 ≤ s.cl.transmit.length →
    exec c s = .next s) ∧
  ∀ (s : State) (r : Request) (rest : List Request), s.Serves r rest →
    (r.kind = 0x04 → ∀ hi lo, r.body = [hi, lo] →
      exec .mask s = .next { s.answered r rest .ok [] with
        cl := { (s.answered r rest .ok []).cl with mask := (hi ++ lo).setWidth 12 } }) ∧
    (r.kind = 0x05 → r.body = [] →
      (∀ n : Notice, s.cl.isSet n = true → s.cl.unmasked n = true →
        (∀ m : Notice, s.cl.isSet m = true → s.cl.unmasked m = true → n.index ≤ m.index) →
        exec .take s =
          let body := u8 n.kind ++ u8 n.subject ++
            flag (allNotices.any fun m => m != n && s.cl.isSet m && s.cl.unmasked m) ++ s.noticeFields n
          .next { s.answered r rest .ok body with
            cl := { (s.answered r rest .ok body).cl with
              latches := s.cl.latches &&& ~~~(1#17 <<< n.index) } }) ∧
      ((∀ m : Notice, s.cl.isSet m = false ∨ s.cl.unmasked m = false) →
        exec .take s = .next (s.answered r rest .ok [0xFF, 0x00, 0x00]))) ∧
    (r.kind = 0x03 → r.body = [] →
      exec .restart s = .next { s.answered r rest .ok [] with
        cl := { (s.answered r rest .ok []).cl with stopped := true } })

/-- The table of R197; ATTN is asserted exactly while an unmasked latch is set (R199), and inactive while
the part is held (R196) or, the model's choice (log 14), without supply. -/
def Obligations.AttnFollowsTheUnmaskedLatches : Prop :=
  allNotices.map Notice.index = List.range 17 ∧
    allNotices.map Notice.kind = [0, 1, 2, 2, 2, 2, 3, 3, 3, 4, 5, 6, 7, 8, 9, 10, 11] ∧
    allNotices.map Notice.subject = [0, 0, 0, 1, 2, 3, 0, 1, 2, 0, 0, 0, 0, 0, 0, 0, 0] ∧
    ∀ s : State, s.attn = true ↔ (s.phase = .loading ∨ s.phase = .running) ∧
      ∃ n : Notice, s.cl.latches.getLsbD n.index = true ∧ s.cl.mask.getLsbD n.kind = true

/-! ### Outputs and tuners -/

/-- WAKE makes every room ACTIVE and allocates in ascending order: each channel of the map gets a fresh
acquisition of its carrier, and only the fourth room can find three other carriers before it and wait
(R46, R33, R23); a channel that has left the map is forgotten. Route words follow the routes (R56). While
ACTIVE it is answered OK without effect. -/
def Obligations.WakeServesEveryRoom : Prop :=
  ∀ (s : State) (r : Request) (rest : List Request), s.Serves r rest → r.kind = 0x10 → r.body = [] →
    ((∃ o : OutputId, s.ou[o].mode = .active) → exec .wake s = .next (s.answered r rest .ok [])) ∧
    ((∀ o : OutputId, s.ou[o].mode = .standby ∧ s.ou[o].attachment = .none) →
      (∀ u : TunerId, s.tp.tuners[u] = .idle) →
      ∃ t, exec .wake s = .next t ∧ (s.answered r rest .accepted []).Retunes t ∧
        (s.answered r rest .accepted []).StoreRests t ∧ t.PoolLaw ∧ t.RoomsDecided ∧
        ∀ o : OutputId, t.ou[o].mode = .active ∧
          (s.ae[o].decision = .off → t.cl.isSet (.outputState o) = true) ∧
          (s.entryOf o = none → t.ou[o].channel = none ∧ t.ou[o].attachment = .none) ∧
          ∀ e, s.entryOf o = some e → t.ou[o].channel = s.ou[o].channel ∧
            ((o = 3 ∧ t.ou[o].attachment = .waiting) ∨
              ∃ u, t.ou[o].attachment = .tuner u e.slot ∧ t.tp.tuners[u] = s.startedOn e.carrier ∧
                s.Drives t (s.startTransfer u e.carrier)))

/-- STANDBY releases every tuner, ends every pass, and darkens every room, whose channel is kept and whose route
word, unless it was none already, is loaded with none; in STANDBY it is answered OK without effect (R47, R56,
R149). -/
def Obligations.StandbyDarkensEveryRoom : Prop :=
  ∀ (s : State) (r : Request) (rest : List Request), s.Serves r rest → r.kind = 0x11 → r.body = [] →
    ((∀ o : OutputId, s.ou[o].mode = .standby) → exec .standby s = .next (s.answered r rest .ok [])) ∧
    ((∃ o : OutputId, s.ou[o].mode = .active) →
      ∃ t, exec .standby s = .next t ∧
        ({ s.answered r rest .ok [] with pc := { s.pc with passes := Vector.replicate 4 none } } :
          State).Retunes t ∧
        (s.answered r rest .ok []).StoreRests t ∧
        (∀ u : TunerId, t.tp.tuners[u] = .idle) ∧
        ∀ o : OutputId, t.ou[o] = { mode := .standby, channel := s.ou[o].channel, attachment := .none } ∧
          t.pc.passes[o] = none ∧
          t.ae[o] = {
            decision := .off, eventId := none, pass := none, channel := s.ou[o].channel, route := none,
            picture := false, descramble := false } ∧
          t.pins.picture[o] = false ∧ t.pins.descramble[o] = false)

/-- A SELECT that passes its checks is served by the first case of R33 that applies: a tuner already on
the carrier, the output's own tuner if it has it alone, the lowest IDLE tuner; or it is refused NO_TUNER
with no effect. A tuner that loses its last output by it goes IDLE and takes up the first waiting output's
carrier (R31, R34, R37, R48 to R50). A tuner that starts or is retuned has its divisor transferred, and no
other has (R21, R23 step 4: Retunes). -/
def Obligations.SelectIsServedByTheFirstCaseOfAllocation : Prop :=
  ∀ (s : State) (r : Request) (rest : List Request) (o : OutputId) (ch : Nat) (e : MapEntry),
    s.Serves r rest → r.kind = 0x12 → r.body = BitVec.ofNat 8 o.val :: u16 ch → 1 ≤ ch → ch ≤ 999 →
    s.PoolLaw → s.ou[o].mode = .active → s.cm.committed.resolve ch = some e → s.ou[o].channel ≠ some ch →
    let held (u : TunerId) : Prop := s.tp.tuners[u].state ≠ .idle ∧ s.tp.tuners[u].carrier = some e.carrier
    let served (u : TunerId) (record : TunerId → Tuner) : Prop :=
      ∃ t, exec .select s = .next t ∧ (s.answered r rest .accepted []).Retunes t ∧
        (s.answered r rest .accepted []).StoreRests t ∧ t.PoolLaw ∧
        t.ou[o] = { mode := .active, channel := some ch, attachment := .tuner u e.slot } ∧
        t.pc.passes[o] = none ∧ t.Evaluated o ∧
        (s.route o ≠ some ⟨u, e.slot⟩ →
          s.Drives t (.route o (BitVec.ofNat 2 u.val ++ BitVec.ofNat 2 e.slot.val))) ∧
        (∀ w : TunerId, t.tp.tuners[w] = record w) ∧
        (∀ w c, record w = s.startedOn c → s.tp.tuners[w] ≠ s.startedOn c →
          s.Drives t (s.startTransfer w c)) ∧
        ∀ p : OutputId, p ≠ o → t.ou[p].channel = s.ou[p].channel ∧
          (s.ou[p].attachment ≠ .waiting → t.ou[p] = s.ou[p])
    (∀ u, held u → served u fun w =>
      if w ≠ u ∧ s.attachedTo w = [o] then
        match s.waitingList.head?.bind s.needs with
        | none => .idle
        | some c => s.startedOn c
      else s.tp.tuners[w]) ∧
    ((∀ u, ¬held u) →
      (∀ u, s.attachedTo u = [o] → served u fun w =>
        if w = u then s.startedOn e.carrier else s.tp.tuners[w]) ∧
      ((∀ u, s.attachedTo u ≠ [o]) →
        (∀ u, s.tp.tuners[u].state = .idle → (∀ w < u, s.tp.tuners[w].state ≠ .idle) →
          served u fun w => if w = u then s.startedOn e.carrier else s.tp.tuners[w]) ∧
        ((∀ u : TunerId, s.tp.tuners[u].state ≠ .idle) →
          exec .select s = .next (s.answered r rest .noTuner []))))

/-- The checks of SELECT and STEP before the target, and a SELECT of the present channel: the reply, with
nothing changed (R48, R51). -/
def Obligations.SelectAndStepRefuseInOrder : Prop :=
  ∀ (s : State) (r : Request) (rest : List Request), s.Serves r rest →
    (r.kind = 0x12 → ∀ (o : Byte) (ch : Nat), r.body = o :: u16 ch → ch < 65536 →
      (3 < o.toNat ∨ ch = 0 ∨ 999 < ch → exec .select s = .next (s.answered r rest .badField [])) ∧
      (1 ≤ ch → ch ≤ 999 → ∀ h : o.toNat < 4,
        ((∀ p : OutputId, s.ou[p].mode = .standby) →
          exec .select s = .next (s.answered r rest .standby [])) ∧
        ((∃ p : OutputId, s.ou[p].mode = .active) →
          (s.cm.committed.resolve ch = none → exec .select s = .next (s.answered r rest .noChannel [])) ∧
          ∀ e, s.cm.committed.resolve ch = some e → s.ou[(⟨o.toNat, h⟩ : OutputId)].channel = some ch →
            exec .select s = .next (s.answered r rest .ok [])))) ∧
    (r.kind = 0x13 → ∀ o d : Byte, r.body = [o, d] →
      (3 < o.toNat ∨ 1 < d.toNat → exec .step s = .next (s.answered r rest .badField [])) ∧
      (o.toNat < 4 → d.toNat < 2 → (∀ p : OutputId, s.ou[p].mode = .standby) →
        exec .step s = .next (s.answered r rest .standby [])))

/-- STEP's walk visits the whole map once, upwards from the first channel above the present one or
downwards from the first below it, wrapping, and stops at the first entry that the bound profile does not
lock (R51). It does to its target what a SELECT of the same output does, and its reply names the target
(R52; sent without a presence byte: log 9). -/
def Obligations.StepSelectsTheFirstEligibleChannel : Prop :=
  ∀ (s : State) (r : Request) (rest : List Request) (o : OutputId) (up : Bool),
    s.Serves r rest → r.kind = 0x13 → r.body = [BitVec.ofNat 8 o.val, if up then 0 else 1] →
    s.cm.committed.Law → s.ou[o].mode = .active →
    let entries := s.cm.committed.entries
    let order : List MapEntry :=
      match s.ou[o].channel, up with
      | none, true => entries
      | none, false => entries.reverse
      | some c, true =>
        (entries.filter fun e => c < e.channel) ++ entries.filter fun e => e.channel ≤ c
      | some c, false =>
        (entries.reverse.filter fun e => e.channel < c) ++ entries.reverse.filter fun e => c ≤ e.channel
    match order.find? fun e =>
        s.pinState == .unset || !(s.pc.profiles[s.pc.bindings[o]].locked.contains e.channel) with
    | none => exec .step s = .next (s.answered r rest .noChannel [])
    | some e => ∃ (x : State) (st : Status),
      exec .step s = .next (x.pushReply ⟨0x93, r.tag, st, u16 e.channel⟩) ∧
      exec .select { s with cl := { s.cl with
          queue := ⟨0x12, r.tag, BitVec.ofNat 8 o.val :: u16 e.channel⟩ :: rest } } =
        .next (x.pushReply ⟨0x92, r.tag, st, []⟩)

/-- TUNER SETUP checks the IF's range, waits for STANDBY, and otherwise sets the IF and has TUNER SETUP
written; the tuners are untouched (R40). -/
def Obligations.TunerSetupSetsTheIf : Prop :=
  ∀ (s : State) (r : Request) (rest : List Request) (v : Nat), s.Serves r rest → r.kind = 0x16 →
    r.body = u24 v → v < 16777216 →
    (v < 30000 ∨ 60000 < v → exec .tunerSetup s = .next (s.answered r rest .badField [])) ∧
    (30000 ≤ v → v ≤ 60000 →
      ((∃ o : OutputId, s.ou[o].mode = .active) →
        exec .tunerSetup s = .next (s.answered r rest .busy [])) ∧
      ((∀ o : OutputId, s.ou[o].mode = .standby) →
        (v = s.tp.ifKHz → exec .tunerSetup s = .next (s.answered r rest .ok [])) ∧
        (v ≠ s.tp.ifKHz → ∃ t, exec .tunerSetup s = .next t ∧ t.awaitsWrite .tunerSetup ∧
          t = { s.answered r rest .ok [] with
            tp := { s.tp with ifKHz := v }
            ss := { s.ss with dirty := t.ss.dirty, engine := t.ss.engine } })))

/-- Lock, unlock, settle expiry and retry expiry in every state of the tuner, and both orders of a lock
indication and a settle expiry that meet in SETTLING (R24, R25, R28, R29, R30, R32, R39). -/
def Obligations.TunerEventsFollowTheState : Prop :=
  ∀ (s : State) (u : TunerId), s.phase = .running →
    let x := s.tp.tuners[u]
    let fault := s.latch (.tunerFault u)
    (x.state = .settling →
      (∃ t, exec (.lockIndication u) s = .next t ∧ s.TunerBecomes u { x with state := .measuring } t ∧
        exec (.settleExpiry u) t = .next t) ∧
      (∃ t, exec (.settleExpiry u) s = .next t ∧
        fault.TunerBecomes u { x with state := .failed, reason := some .noLock } t ∧
        exec (.lockIndication u) t = .next t)) ∧
    (x.state ≠ .settling → exec (.lockIndication u) s = .next s ∧ exec (.settleExpiry u) s = .next s) ∧
    (x.state = .measuring →
      ∃ t, exec (.unlockIndication u) s = .next t ∧ s.TunerBecomes u { x with state := .settling } t) ∧
    (x.state = .locked →
      ∃ t, exec (.unlockIndication u) s = .next t ∧
        fault.TunerBecomes u { x with state := .settling, corrections := 0 } t) ∧
    (x.state ≠ .measuring → x.state ≠ .locked → exec (.unlockIndication u) s = .next s) ∧
    (∀ c, x.state = .failed → x.carrier = some c →
      ∃ t, exec (.retryExpiry u) s = .next t ∧ s.TunerBecomes u (s.startedOn c) t ∧
        s.Drives t (s.startTransfer u c)) ∧
    (x.state ≠ .failed → exec (.retryExpiry u) s = .next s)

/-- A gate completion in MEASURING: no carrier under a quarter of the expected count or past 20 bits, a lock
within 600 of it, and otherwise a correction by the deviation over 250, rounded half away from zero, held
within 16 steps a time, 32 in all and three a run (R22, R26, R27). In any other state it is ignored. -/
def Obligations.GateCompletionJudgesTheCount : Prop :=
  ∀ (s : State) (u : TunerId) (cycles : Nat), s.phase = .running →
    let x := s.tp.tuners[u]
    let y : Tuner := { x with lastCount := some (.count cycles) }
    let d : Int := (cycles : Int) - 4 * s.tp.ifKHz
    let fails (z : Tuner) (why : FailReason) : Prop := ∃ t, exec (.gateCompletion u cycles) s = .next t ∧
      (s.latch (.tunerFault u)).TunerBecomes u { z with state := .failed, reason := some why } t
    (x.state ≠ .measuring → exec (.gateCompletion u cycles) s = .next s) ∧
    (x.state = .measuring →
      (1048575 < cycles → fails { x with lastCount := some .overflow } .noCarrier) ∧
      (cycles ≤ 1048575 →
        (cycles < s.tp.ifKHz → fails y .noCarrier) ∧
        (s.tp.ifKHz ≤ cycles → -600 ≤ d → d ≤ 600 →
          ∃ t, exec (.gateCompletion u cycles) s = .next t ∧
            s.TunerBecomes u { y with state := .locked } t) ∧
        (s.tp.ifKHz ≤ cycles → d < -600 ∨ 600 < d →
          (3 ≤ x.corrections → fails y .offFrequency) ∧
          (x.corrections < 3 → ∀ k : Int, -250 ≤ 2 * (d - 250 * k) → 2 * (d - 250 * k) ≤ 250 →
            (2 * (d - 250 * k) = 250 → d < 0) → (2 * (d - 250 * k) = -250 → 0 < d) →
            let offset := max (-32) (min 32 (x.offset - max (-16) (min 16 k)))
            (offset = x.offset → fails y .offFrequency) ∧
            (offset ≠ x.offset → ∃ t, exec (.gateCompletion u cycles) s = .next t ∧
              s.TunerBecomes u { y with
                state := .settling, offset := offset, corrections := x.corrections + 1 } t ∧
              ∀ n, x.n0 = some n →
                s.Drives t (.divisor u (transferOf ((n : Int) + offset).toNat)))))))

/-! ### Decisions -/

/-- The nine steps of the evaluation, with the parental test's conditions in their order, and the fields and
gates that follow: the decision of an output, in every case in which R44 leaves it, the current event id, the
pass that set the test aside, the evaluated channel and route (R121 to R123, R137, R149 to R156). -/
def Obligations.DecisionsFollowTheNineSteps : Prop :=
  ∀ (s : State) (o : OutputId),
    let d := (s.decisionRecord o).decision
    ((s.decisionRecord o).picture = true ↔ d = .clear ∨ ∃ n, d = .preview n) ∧
    ((s.decisionRecord o).descramble = true ↔
      (s.decisionRecord o).picture = true ∧ ∃ e, s.entryOf o = some e ∧ e.scrambled = true) ∧
    (s.decisionRecord o).channel = s.ou[o].channel ∧
    (∀ u sl, (s.decisionRecord o).route = some ⟨u, sl⟩ ↔ s.ou[o].attachment = .tuner u sl) ∧
    (∀ n, (s.decisionRecord o).eventId = some n ↔ s.ou[o].mode = .active ∧
      ∃ ch e, s.ou[o].channel = some ch ∧ s.current ch = some e ∧ e.eventId = n) ∧
    (∀ q, (s.decisionRecord o).pass = some q ↔
      s.ou[o].mode = .active ∧ s.ep.ent.unitState = .active ∧ s.pinState ≠ .unset ∧
        s.pc.passes[o] = some q ∧ ∃ ch u sl e, s.ou[o].channel = some ch ∧
          s.ou[o].attachment = .tuner u sl ∧ s.tp.tuners[u].state = .locked ∧
          s.cm.committed.resolve ch = some e ∧
          ((∃ left, q = .channel ch left) ∨ ∃ ev, s.current ch = some ev ∧ q = .event ch ev.eventId)) ∧
    (s.ou[o].mode = .standby → d = .off) ∧
    (s.ou[o].mode = .active → s.ou[o].channel = none → d = .blank) ∧
    (s.ou[o].mode = .active → s.ou[o].channel ≠ none → s.ou[o].attachment = .waiting → d = .noTuner) ∧
    ∀ ch u sl e, s.ou[o].mode = .active → s.ou[o].channel = some ch → s.ou[o].attachment = .tuner u sl →
      s.cm.committed.resolve ch = some e →
      let p := s.pc.profiles[s.pc.bindings[o]]
      let cur := s.current ch
      let aside : Prop := s.pinState = .unset ∨ ∃ q, s.pc.passes[o] = some q ∧
        ((∃ left, q = .channel ch left) ∨ ∃ ev, cur = some ev ∧ q = .event ch ev.eventId)
      let inside (w : Window) (m : Nat) : Prop :=
        if w.opens < w.closes then w.opens ≤ m ∧ m < w.closes else w.opens ≤ m ∨ m < w.closes
      let locked : Prop := ch ∈ p.locked
      let shut : Prop := ∃ w, p.window = some w ∧ ∀ c, s.tb.clock = some c → ¬inside w (c.second / 60)
      let unrated : Prop := p.blockUnrated = true ∧ ∀ ev, cur = some ev → ev.rating = 0
      let rated : Prop := ∃ ev, cur = some ev ∧ p.ceiling < ev.rating
      let content : Prop := ∃ ev, cur = some ev ∧ ev.flags &&& p.blocked ≠ 0
      let admitted : Prop := aside ∨ (¬locked ∧ ¬shut ∧ ¬unrated ∧ ¬rated ∧ ¬content)
      (s.ep.ent.unitState = .disconnected → d = .disconnected) ∧
      (s.ep.ent.unitState = .active →
        (s.tp.tuners[u].state = .settling ∨ s.tp.tuners[u].state = .measuring → d = .acquiring) ∧
        (s.tp.tuners[u].state = .failed → d = .noSignal) ∧
        (s.tp.tuners[u].state = .locked →
          (¬aside → locked → d = .blockedParental .channelLock) ∧
          (¬aside → ¬locked → shut → d = .blockedParental .window) ∧
          (¬aside → ¬locked → ¬shut → unrated → d = .blockedParental .unrated) ∧
          (¬aside → ¬locked → ¬shut → ¬unrated → rated → d = .blockedParental .rating) ∧
          (¬aside → ¬locked → ¬shut → ¬unrated → ¬rated → content → d = .blockedParental .content) ∧
          (admitted → e.access = .free → d = .clear) ∧
          (admitted → ∀ k, e.access = .tier k →
            let good : Prop := s.ep.ent.tiers[k].held = true ∧
              ∀ c, s.tb.clock = some c → c.day ≤ s.ep.ent.tiers[k].expiry
            (good → d = .clear) ∧ (¬good → d = .blockedTier k)) ∧
          (admitted → e.access = .pay →
            (cur = none → d = .blockedPay .noEvent) ∧
            ∀ ev n, cur = some ev → s.now = some n →
              (ev.price = 0 → d = .clear) ∧
              (ev.price ≠ 0 →
                let bought := s.ep.recordFor ch ev.eventId
                (∀ x, bought = some x → x.state ≠ .pending → d = .clear) ∧
                ((∀ x, bought = some x → x.state = .pending) →
                  (n < ev.start + ev.preview → d = .preview (ev.start + ev.preview - n)) ∧
                  (ev.start + ev.preview ≤ n →
                    d = .blockedPay (if bought = none then .notBought else .pending)))))))

/-! ### Time -/

/-- A second expiry counts the seconds, wraps and rolls the day (R61), and at each full minute of the wall
clock, or of the local count while time is unknown, purges the guide, counts the lockout and the passes
down, removes purchases and decides every room anew (R62, R82, R111, R127, R139, R159). -/
def Obligations.SecondsCountAndMinutesAct : Prop :=
  ∀ s : State, s.TimeLaw →
    let tb : TimeBase := {
      localSeconds := if s.tb.localSeconds = 4294967279 then 0 else s.tb.localSeconds + 1
      clock := s.tb.clock.map fun c =>
        if c.second = 86399 then { day := if c.day = 65535 then 0 else c.day + 1, second := 0 }
        else { c with second := c.second + 1 } }
    let minute : Prop := match tb.clock with
      | none => tb.localSeconds % 60 = 0
      | some c => c.second % 60 = 0
    (s.phase = .loading → exec .secondExpiry s = .next { s with tb := tb }) ∧
    (s.phase = .running →
      (¬minute → exec .secondExpiry s = .next { s with tb := tb }) ∧
      (minute → ∃ t, exec .secondExpiry s = .next t ∧ ({ s with tb := tb } : State).afterMinute.Closes t ∧
        t.RoomsDecided ∧ (t.pc.record ≠ s.pc.record → t.awaitsWrite .pin) ∧
        ∀ p ∈ s.ep.log, p ∉ t.ep.log → t.awaitsWrite (.slot p.slot)))

/-- A TIME packet sets the clock; it raises a minute event where time was unknown or the guide minute
changes, and latches TIME_SET where time was unknown or jumps by more than 60 s; a short body or a second
past the day is ignored (R63 to R66). -/
def Obligations.TimePacketsSetTheClock : Prop :=
  ∀ (s : State) (body : List Byte), s.Hands 0x10 body →
    (body.length < 5 → exec .time s = .next s.packetGone) ∧
    ∀ (day second : Nat) (more : List Byte), body = u16 day ++ u24 second ++ more → day < 65536 →
      second < 16777216 →
      let c : WallClock := { day := day, second := second % 131072 }
      let set : State := { s.packetGone with tb := { s.tb with clock := some c } }
      let runs (m : State) : Prop := ∃ t, exec .time s = .next t ∧ m.afterMinute.Closes t ∧ t.RoomsDecided ∧
        (t.pc.record ≠ s.pc.record → t.awaitsWrite .pin) ∧
        ∀ p ∈ s.ep.log, p ∉ t.ep.log → t.awaitsWrite (.slot p.slot)
      (86399 < c.second → exec .time s = .next s.packetGone) ∧
      (c.second ≤ 86399 →
        (s.tb.clock = none → runs (set.latch .timeSet)) ∧
        ∀ old, s.tb.clock = some old →
          let jump : Int := ((c.day * 86400 + c.second : Nat) : Int) - (old.day * 86400 + old.second : Nat)
          (c.day * 1440 + c.second / 60 = old.day * 1440 + old.second / 60 → exec .time s = .next set) ∧
          (c.day * 1440 + c.second / 60 ≠ old.day * 1440 + old.second / 60 →
            (-60 ≤ jump → jump ≤ 60 → runs set) ∧
            (jump < -60 ∨ 60 < jump → runs (set.latch .timeSet))))

/-! ### Map and guide -/

/-- A MAP segment and a GUIDE packet are read as section 9.3 lays their bytes out, whatever bytes follow,
and not at all where the body ends before the last entry does (R4, R73). -/
def Obligations.PacketBodiesReadAsLaidOut : Prop :=
  (∀ (v n c : Nat) (es : List RawEntry) (more : List Byte), v < 256 → 1 ≤ c → c ≤ 16 → n < c →
    es.length ≤ 16 → (∀ e ∈ es, e.Fits) →
    let body := [BitVec.ofNat 8 v, BitVec.ofNat 8 n, BitVec.ofNat 8 c, BitVec.ofNat 8 es.length] ++
      (es.map wireEntry).flatten
    readSegment (body ++ more) = some ⟨v, n, c, es⟩ ∧
      ∀ k < body.length, readSegment (body.take k) = none) ∧
  (∀ (service : Nat) (es : List RawEvent) (more : List Byte), 1 ≤ service → service ≤ 999 →
    es.length ≤ 16 → (∀ e ∈ es, e.Fits) →
    let body := u16 service ++ [BitVec.ofNat 8 es.length] ++ (es.map wireEvent).flatten
    readGuide (body ++ more) = some ⟨service, es⟩ ∧ ∀ k < body.length, readGuide (body.take k) = none)

/-- The checks of an entry at intake (R5), and the fate of a segment that does not complete its version:
ignored where it cannot be one or carries the committed version (R4, R6), and otherwise staged, over the
collection of its own version and count alone (R7 to R9). -/
def Obligations.MapSegmentsAreStaged : Prop :=
  (∀ (x : RawEntry) (e : MapEntry), x.intake = some e ↔
    (1 ≤ x.channel ∧ x.channel ≤ 999) ∧ (48000 ≤ x.carrier ∧ x.carrier ≤ 1002000) ∧ x.slot < 4 ∧
      e.channel = x.channel ∧ e.carrier = x.carrier ∧ e.slot.val = x.slot ∧ e.scrambled = x.scrambled ∧
      e.label = ((x.label.take 8).map fun b => if 0x20 ≤ b.toNat ∧ b.toNat ≤ 0x7E then b else 0x3F) ∧
      ((x.classCode = 0 ∧ e.access = .free) ∨
        (x.classCode = 1 ∧ ∃ k, k.val = x.tier ∧ e.access = .tier k) ∨
        (x.classCode = 2 ∧ e.access = .pay))) ∧
  ∀ (s : State) (body : List Byte), s.Hands 0x20 body → s.MapLaw →
    (readSegment body = none → exec .map s = .next s.packetGone) ∧
    ∀ g, readSegment body = some g →
      (s.cm.committed.version = some g.version → exec .map s = .next s.packetGone) ∧
      (s.cm.committed.version ≠ some g.version →
        (∃ n < g.count, n ≠ g.number ∧ n ∉ (s.collected g).1) →
        ∃ st : Staging, exec .map s = .next { s.packetGone with cm := { s.cm with staging := some st } } ∧
          st.version = g.version ∧ st.count = g.count ∧
          (∀ n, n ∈ st.received ↔ n = g.number ∨ n ∈ (s.collected g).1) ∧
          ∀ ch, (st.entries.find? fun x => x.entry.channel == ch) = g.found (s.collected g).2 ch)

/-- The segment that completes a version commits it whole: the map's lookups, MAP_COMMITTED, the record to
be written, and every output re-resolved. A room whose channel keeps carrier and slot keeps all, its tuner
too; one whose channel is gone is left without. A room that waited is served before those that have moved: on a
tuner that some unchanged room keeps on its carrier, or on the lowest tuner that no unchanged room keeps, which
starts; with neither it waits on. A moved room joins the kept tuner of its carrier. Each output whose route
changed has its word loaded and each started tuner its divisor; the pool stays sound and every room is decided
anew (R10, R11, R21, R53, R54, R56); in STANDBY no output changes (R55). -/
def Obligations.CommitsReplaceTheMapAndReResolve : Prop :=
  ∀ (s : State) (body : List Byte) (g : RawSegment), s.Hands 0x20 body → readSegment body = some g →
    s.MapLaw → s.PoolLaw → s.cm.committed.version ≠ some g.version →
    (∀ n < g.count, n = g.number ∨ n ∈ (s.collected g).1) →
    ∃ (t : State) (m : Lineup), exec .map s = .next t ∧
      (({ s.packetGone with cm := { committed := m, staging := none } } : State).latch
        .mapCommitted).Retunes t ∧
      m.version = some g.version ∧
      (∀ ch, m.resolve ch = (g.found (s.collected g).2 ch).map StagedEntry.entry) ∧
      t.awaitsWrite .map ∧ t.PoolLaw ∧ t.RoomsDecided ∧
      ((∀ o : OutputId, s.ou[o].mode = .standby) → t.ou = s.ou ∧ t.tp = s.tp) ∧
      ∀ o : OutputId, s.ou[o].mode = .active →
        (s.ou[o].channel = none → t.ou[o] = s.ou[o]) ∧
        ∀ ch, s.ou[o].channel = some ch →
          (m.resolve ch = none → t.pc.passes[o] = none ∧
            t.ou[o] = { mode := .active, channel := none, attachment := .none }) ∧
          ∀ e, m.resolve ch = some e → t.ou[o].channel = some ch ∧
            (∀ u sl, s.ou[o].attachment = .tuner u sl → s.tp.tuners[u].carrier = some e.carrier →
              sl = e.slot → t.ou[o] = s.ou[o] ∧ t.tp.tuners[u] = s.tp.tuners[u]) ∧
            let kept (u : TunerId) : Prop := ∃ (p : OutputId) (ch' : Nat) (x : MapEntry),
              s.ou[p].channel = some ch' ∧ m.resolve ch' = some x ∧
                s.tp.tuners[u].carrier = some x.carrier ∧ s.ou[p].attachment = .tuner u x.slot
            (∀ u, kept u → s.tp.tuners[u].carrier = some e.carrier →
              t.ou[o].attachment = .tuner u e.slot ∧ t.tp.tuners[u] = s.tp.tuners[u]) ∧
            (s.ou[o].attachment = .waiting → (∀ u, kept u → s.tp.tuners[u].carrier ≠ some e.carrier) →
              (∀ u, ¬kept u → (∀ w < u, kept w) →
                t.ou[o].attachment = .tuner u e.slot ∧ t.tp.tuners[u] = s.startedOn e.carrier ∧
                  s.Drives t (s.startTransfer u e.carrier)) ∧
              ((∀ u, kept u) → t.ou[o] = s.ou[o]))

/-- A GUIDE packet's programmes are checked and adjusted (R74) and placed one after another (R73); GUIDE_FULL
is latched where a placement calls for it (R79), and each room whose current programme has changed but for
its title is decided anew (R85). A body that R73 refuses is ignored. -/
def Obligations.GuidePacketsPlaceTheirProgrammes : Prop :=
  (∀ (service : Nat) (x : RawEvent) (e : GuideEvent), x.intake service = some e ↔
    1 ≤ x.eventId ∧ x.minute ≤ 1439 ∧ 1 ≤ x.duration ∧ x.duration ≤ 1440 ∧
      e = { service := service, eventId := x.eventId, start := x.day * 1440 + x.minute,
            duration := x.duration, rating := min x.rating 6, flags := x.flags.setWidth 4, price := x.price,
            preview := min x.preview 15, title := x.title.take 48 }) ∧
  ∀ (s : State) (body : List Byte), s.Hands 0x30 body →
    (readGuide body = none → exec .guide s = .next s.packetGone) ∧
    ∀ g, readGuide body = some g →
      let placed := (g.events.filterMap fun x => x.intake g.service).foldl
        (fun acc e => ((acc.1.place e s.now).1, acc.2 || (acc.1.place e s.now).2)) (s.pg, false)
      let m : State := { s.packetGone with pg := placed.1 }
      ∃ t, exec .guide s = .next t ∧ (if placed.2 then m.latch .guideFull else m).Closes t ∧
        m.StoreRests t ∧
        ∀ o : OutputId, t.ou[o].mode = .active →
          (t.currentOf o).map (fun e => { e with title := [] }) ≠
            (s.currentOf o).map (fun e => { e with title := [] }) →
          t.Evaluated o

/-- Placement of one programme: one that has ended is not placed (R75). Otherwise the records of its service
that share its id or overlap it leave (R76, R77), and with room it is stored (R80). Without room, ended
records leave (R78 step 1), then, while there is still none, the records of latest start, as long as they
start after it; each that leaves goes before each that stays, and the last one to leave was in the way; and
the programme is stored in the end, or no record starts after it (R78). -/
def Obligations.GuideKeepsTheSoonest : Prop :=
  ∀ (g : Guide) (x : GuideEvent) (now : Option Nat),
    g.events.Pairwise (fun a b => a.service < b.service ∨ (a.service = b.service ∧ a.start < b.start)) →
    let ended (e : GuideEvent) : Prop := ∃ n, now = some n ∧ e.start + e.duration ≤ n
    let clashes (e : GuideEvent) : Prop := e.service = x.service ∧
      (e.eventId = x.eventId ∨ (e.start < x.start + x.duration ∧ x.start < e.start + e.duration))
    let after := (g.place x now).1.events
    (ended x → g.place x now = (g, false)) ∧
    (¬ended x → ∃ clear alive : List GuideEvent,
      clear.Sublist g.events ∧ (∀ e, e ∈ clear ↔ e ∈ g.events ∧ ¬clashes e) ∧
      alive.Sublist clear ∧ (∀ e, e ∈ alive ↔ e ∈ clear ∧ ¬ended e) ∧
      (GuideRoom clear x.title.length →
        (∀ e, e ∈ after ↔ e = x ∨ e ∈ clear) ∧ after.length = clear.length + 1 ∧
          (g.place x now).2 = false) ∧
      (¬GuideRoom clear x.title.length → ∃ kept : List GuideEvent,
        kept.Sublist alive ∧
        (∀ v ∈ alive, v ∉ kept → x.start < v.start ∧ ∀ e ∈ kept, v.LeavesBefore e) ∧
        (∀ v ∈ alive, v ∉ kept → (∀ w ∈ alive, w ∉ kept → w ≠ v → w.LeavesBefore v) →
          ¬GuideRoom (v :: kept) x.title.length) ∧
        (GuideRoom kept x.title.length →
          (∀ e, e ∈ after ↔ e = x ∨ e ∈ kept) ∧ after.length = kept.length + 1 ∧
            ((g.place x now).2 = true ↔ kept.length < alive.length)) ∧
        (¬GuideRoom kept x.title.length → after = kept ∧ (∀ e ∈ kept, e.start ≤ x.start) ∧
          ((g.place x now).2 = true ↔ alive ≠ []))))

/-! ### Entitlements and purchases -/

/-- GRANT, REVOKE, CREDIT and UNIT: what each makes of the tier table, the limit and the unit state, and the
effects they share: ENTITLEMENTS to be written, ENTITLEMENT latched, every room decided anew (R92 to R96).
A malformed body is ignored. -/
def Obligations.EntitlementPacketsTakeEffect : Prop :=
  ∀ (s : State) (body : List Byte),
    let taken (c : Instr) (e : Entitlements) : Prop := ∃ t, exec c s = .next t ∧
      (({ s.packetGone with ep := { s.ep with ent := e } } : State).latch .entitlement).Closes t ∧
      t.RoomsDecided ∧ t.awaitsWrite .entitlements
    let ignored (c : Instr) : Prop := exec c s = .next s.packetGone
    (s.Hands 0x40 body →
      (body = [] → ignored .grant) ∧
      ∀ n more, body = n :: more →
        (16 < n.toNat ∨ more.length < 3 * n.toNat → ignored .grant) ∧
        ∀ (pairs : List (Byte × Byte × Byte)) (rest : List Byte), n.toNat ≤ 16 → pairs.length = n.toNat →
          more = (pairs.map fun p => [p.1, p.2.1, p.2.2]).flatten ++ rest →
          ∃ e : Entitlements, taken .grant e ∧ e.limit = s.ep.ent.limit ∧
            e.unitState = s.ep.ent.unitState ∧
            ∀ k : TierId, e.tiers[k] =
              match pairs.reverse.find? fun p => p.1.toNat == k.val with
              | some p => { held := true, expiry := (p.2.1 ++ p.2.2).toNat }
              | none => s.ep.ent.tiers[k]) ∧
    (s.Hands 0x41 body →
      (body = [] → ignored .revoke) ∧
      ∀ n more, body = n :: more →
        (64 < n.toNat ∨ more.length < n.toNat → ignored .revoke) ∧
        ∀ tiers rest : List Byte, n.toNat ≤ 64 → tiers.length = n.toNat → more = tiers ++ rest →
          ∃ e : Entitlements, taken .revoke e ∧ e.limit = s.ep.ent.limit ∧
            e.unitState = s.ep.ent.unitState ∧
            ∀ k : TierId, e.tiers[k] =
              if tiers.any fun b => b.toNat == k.val then { held := false, expiry := 0 }
              else s.ep.ent.tiers[k]) ∧
    (s.Hands 0x42 body →
      (body.length < 2 → ignored .credit) ∧
      ∀ hi lo rest, body = hi :: lo :: rest → taken .credit { s.ep.ent with limit := (hi ++ lo).toNat }) ∧
    (s.Hands 0x44 body →
      (body = [] → ignored .unit) ∧
      ∀ b rest, body = b :: rest →
        (b = 0 → taken .unit { s.ep.ent with unitState := .active }) ∧
        (b = 1 → taken .unit { s.ep.ent with unitState := .disconnected }) ∧
        (1 < b.toNat → ignored .unit))

/-- A BUY that passes every check appends a PENDING record of the current programme in the lowest free slot
with the next number, has slot and SEQUENCE written, latches LOG_NEAR_FULL at 28 records, decides the rooms
on the channel anew, and replies the number and the credit used; a PIN it needed clears the attempts (R102 to
R104). -/
def Obligations.BuyAppendsAPendingPurchase : Prop :=
  ∀ (s : State) (r : Request) (rest : List Request) (o : OutputId) (pin : List Nat) (ch n : Nat)
    (x : MapEntry) (e : GuideEvent), s.Serves r rest → r.kind = 0x30 →
    r.body = BitVec.ofNat 8 o.val :: pinField pin → PinForm pin → s.ou[o].mode = .active →
    s.ou[o].channel = some ch → s.cm.committed.resolve ch = some x → x.access = .pay →
    s.ep.ent.unitState = .active → s.now = some n → s.current ch = some e → e.price ≠ 0 →
    (∀ why, s.ae[o].decision ≠ .blockedParental why) → s.ep.recordFor ch e.eventId = none →
    (s.pc.profiles[s.pc.bindings[o]].purchasePin = false ∨ s.Authorises pin) →
    s.ep.log.length < 32 → s.ep.seq.next ≠ 4294967295 →
    s.ep.creditUsed + e.price ≤ s.ep.ent.limit →
    let record := if s.pc.profiles[s.pc.bindings[o]].purchasePin then s.pc.record.accepted else s.pc.record
    ∃ (t : State) (k : SlotId), exec .buy s = .next t ∧ (∀ p ∈ s.ep.log, p.slot ≠ k) ∧
      (∀ j < k, ∃ p ∈ s.ep.log, p.slot = j) ∧
      (let m : State := { s.answered r rest .accepted
          (u32 s.ep.seq.next ++ u16 (s.ep.creditUsed + e.price)) with
        pc := { s.pc with record := record }
        ep := { s.ep with
          log := s.ep.log ++ [{
            seq := s.ep.seq.next, service := ch, eventId := e.eventId, start := e.start,
            finish := e.start + e.duration, price := e.price, minute := n, state := .pending, slot := k }]
          seq := { s.ep.seq with next := s.ep.seq.next + 1 } } }
      (if s.ep.log.length = 27 then m.latch .logNearFull else m).Closes t) ∧
      t.awaitsWrite (.slot k) ∧ t.awaitsSequence ∧ (record ≠ s.pc.record → t.awaitsWrite .pin) ∧
      ∀ p : OutputId, t.ou[p].mode = .active → t.ou[p].channel = some ch → t.Evaluated p

/-- BUY's checks in their order, each with its refusal and with nothing changed but what the PIN judged at
check 10 changes: a wrong one is counted and written, the fifth starting a lockout of 15 minutes with PIN_LOCKOUT
latched and every room decided anew, and an accepted one clears the attempts (R100 to R103, R126). -/
def Obligations.BuyRefusesInOrder : Prop :=
  ∀ (s : State) (r : Request) (rest : List Request) (b : Byte) (pin : List Nat), s.Serves r rest →
    r.kind = 0x30 → r.body = b :: pinField pin → pin.length < 256 → (∀ x ∈ pin, x < 256) → s.StoreLaw →
    let refused (st : Status) : Prop := exec .buy s = .next (s.answered r rest st [])
    (3 < b.toNat ∨ ¬PinForm pin → refused .badField) ∧
    ∀ o : OutputId, b = BitVec.ofNat 8 o.val → PinForm pin →
      ((∀ p : OutputId, s.ou[p].mode = .standby) → refused .standby) ∧
      ((∃ p : OutputId, s.ou[p].mode = .active) →
        (s.entryOf o = none → refused .noChannel) ∧
        ∀ x, s.entryOf o = some x →
          (x.access ≠ .pay → refused .notPay) ∧
          (x.access = .pay →
            (s.ep.ent.unitState = .disconnected → refused .disconnected) ∧
            (s.ep.ent.unitState = .active →
              (s.tb.clock = none → refused .noTime) ∧
              (s.tb.clock ≠ none → s.current x.channel = none → refused .noEvent) ∧
              ∀ e, s.tb.clock ≠ none → s.current x.channel = some e →
                (e.price = 0 → refused .notPay) ∧
                (e.price ≠ 0 →
                  ((∃ why, s.ae[o].decision = .blockedParental why) → refused .parental) ∧
                  ((∀ why, s.ae[o].decision ≠ .blockedParental why) →
                    (s.ep.recordFor x.channel e.eventId ≠ none → refused .already) ∧
                    (s.ep.recordFor x.channel e.eventId = none →
                      let asked := s.pc.profiles[s.pc.bindings[o]].purchasePin
                      (asked = true → s.pinState = .lockedOut → refused .lockedOut) ∧
                      (asked = true → s.pinState = .armed → ¬s.pc.record.Accepts false pin →
                        let n := s.pc.record.attempts + 1
                        (n < 5 → ∃ t, exec .buy s = .next t ∧ t.awaitsWrite .pin ∧
                          ({ s.answered r rest .wrongPin [] with
                            pc := { s.pc with record := { s.pc.record with attempts := n } } } :
                              State).Closes t) ∧
                        (5 ≤ n → ∃ t, exec .buy s = .next t ∧ t.awaitsWrite .pin ∧ t.RoomsDecided ∧
                          (({ s.answered r rest .wrongPin [] with
                            pc := { s.pc with record := { s.pc.record with attempts := n, lockout := 15 } } } :
                              State).latch .pinLockout).Closes t)) ∧
                      (asked = false ∨ s.Authorises pin →
                        let record := if asked then s.pc.record.accepted else s.pc.record
                        let after (st : Status) : Prop := ∃ t, exec .buy s = .next t ∧
                          ({ s.answered r rest st [] with pc := { s.pc with record := record } } :
                            State).Closes t ∧ (record = s.pc.record → t = s.answered r rest st [])
                        (32 ≤ s.ep.log.length ∨ s.ep.seq.next = 4294967295 → after .logFull) ∧
                        (s.ep.log.length < 32 → s.ep.seq.next ≠ 4294967295 →
                          s.ep.ent.limit < s.ep.creditUsed + e.price → after .noCredit))))))))

/-- PURACK makes each OPEN record it covers REPORTED, or removes it where its programme has ended; raises
the acknowledged-through number as far as numbers have been given; has the slots and SEQUENCE written; and,
where a record changed, latches ENTITLEMENT and decides the rooms on its channel anew (R109). -/
def Obligations.PurackReportsOpenPurchases : Prop :=
  ∀ (s : State) (body : List Byte), s.Hands 0x43 body →
    (body.length < 4 → exec .purack s = .next s.packetGone) ∧
    ∀ (n : Nat) (more : List Byte), body = u32 n ++ more → n < 4294967296 →
      let covered (p : Purchase) : Prop := p.state = .opened ∧ p.seq ≤ n
      let ended (p : Purchase) : Prop := ∃ now, s.now = some now ∧ p.finish ≤ now
      ∃ (t : State) (log : List Purchase), exec .purack s = .next t ∧
        (let m : State := { s.packetGone with ep := { s.ep with
          log := log
          seq := { s.ep.seq with acked := max s.ep.seq.acked (min n (s.ep.seq.next - 1)) } } }
        ((∃ p ∈ s.ep.log, covered p) → (m.latch .entitlement).Closes t) ∧
        ((∀ p ∈ s.ep.log, ¬covered p) → m.Closes t)) ∧
        (∀ p, p ∈ log ↔ (p ∈ s.ep.log ∧ ¬covered p) ∨
          ∃ q ∈ s.ep.log, covered q ∧ ¬ended q ∧ p = { q with state := .reported }) ∧
        ((log.map Purchase.seq).Sublist (s.ep.log.map Purchase.seq)) ∧
        (s.ep.seq.acked < t.ep.seq.acked → t.awaitsSequence) ∧
        ∀ p ∈ s.ep.log, covered p → t.awaitsWrite (.slot p.slot) ∧
          ∀ o : OutputId, t.ou[o].mode = .active → t.ou[o].channel = some p.service →
            t.Evaluated o

/-! ### The store -/

/-- A write's completion stores what the write carried with its check value (R204, R209, R210; log 23),
completes the PENDING purchase whose number it carried (R107), and starts the next write, the dirty record
highest in class order (R208). -/
def Obligations.WriteCompletionStoresAndGoesOn : Prop :=
  ∀ s : State,
    (s.ss.engine = none → exec .writeCompletion s = .next s) ∧
    ∀ c, s.ss.engine = some c →
      let q := s.ss.records
      let records : Records := match c with
        | .slot k p w => { q with
            slots := q.slots.set k (p.map fun x => ⟨x, Config.checkValue x⟩)
            sequence := some ⟨w, Config.checkValue w⟩ }
        | .sequence w => { q with sequence := some ⟨w, Config.checkValue w⟩ }
        | .pin v => { q with pin := some ⟨v, Config.checkValue v⟩ }
        | .entitlements v => { q with entitlements := some ⟨v, Config.checkValue v⟩ }
        | .profile p v => { q with profiles := q.profiles.set p (some ⟨v, Config.checkValue v⟩) }
        | .bindings v => { q with bindings := some ⟨v, Config.checkValue v⟩ }
        | .map v => { q with map := some ⟨v, Config.checkValue v⟩ }
        | .feedSetup v => { q with feedSetup := some ⟨v, Config.checkValue v⟩ }
        | .tunerSetup v => { q with tunerSetup := some ⟨v, Config.checkValue v⟩ }
      let stored : State := { s with ss := { s.ss with records := records } }
      ∃ t, exec .writeCompletion s = .next t ∧
        (s.ss.dirty = [] → t.ss.dirty = [] ∧ t.ss.engine = none) ∧
        (∀ d ds, s.ss.dirty = d :: ds → t.ss.engine = some (t.supply d) ∧
          ∀ x, x ∈ t.ss.dirty ↔ x ∈ ds ∧ ¬(x = .sequence ∧ ∃ k, d = .slot k)) ∧
        (∀ k p w x, c = .slot k (some p) w → s.ep.inSlot k = some x → x.state = .pending → x.seq = p.seq →
          (({ stored with ep := { s.ep with
              log := s.ep.log.map fun y => if y = x then { y with state := .opened } else y
              lastCompleted := some x.seq } } : State).latch .purchaseDone).Closes t ∧
          ∀ o : OutputId, t.ou[o].mode = .active → t.ou[o].channel = some x.service →
            t.Evaluated o) ∧
        ((∀ k p w x, c = .slot k (some p) w → s.ep.inSlot k = some x →
            x.state ≠ .pending ∨ x.seq ≠ p.seq) →
          t = { stored with ss := { stored.ss with dirty := t.ss.dirty, engine := t.ss.engine } })

/-! ### Parental control -/

/-- PIN SET, PIN CLEAR and FREEZE past their checks: the PIN record each leaves, the master PIN's larger
clear at MAXIMUM, the rooms decided anew where the test's reach changes, and the records to be written. A new
PIN that is not 4 digits from 0 to 9, and a malformed PIN field, are BAD_FIELD, whatever the frozen flag and
the PIN state (R128 to R131, R134). -/
def Obligations.PinRequestsTakeEffect : Prop :=
  ∀ (s : State) (r : Request) (rest : List Request), s.Serves r rest →
    (r.kind = 0x40 → ∀ new cur, r.body = pinField new ++ pinField cur → PinBytes new → PinBytes cur →
      ¬(new.length = 4 ∧ (∀ x ∈ new, x ≤ 9) ∧ PinForm cur) →
      exec .pinSet s = .next (s.answered r rest .badField [])) ∧
    (r.kind = 0x41 → ∀ d, r.body = pinField d → PinBytes d → ¬PinForm d →
      exec .pinClear s = .next (s.answered r rest .badField [])) ∧
    (r.kind = 0x40 → ∀ new cur, r.body = pinField new ++ pinField cur → new.length = 4 →
      (∀ x ∈ new, x ≤ 9) → PinForm cur → s.pc.frozen = false → s.Authorises cur →
      let record := { s.pc.record with pin := some new, attempts := 0 }
      ∃ t, exec .pinSet s = .next t ∧
        ({ s.answered r rest .ok [] with pc := { s.pc with record := record } } : State).Closes t ∧
        (s.pinState = .unset → t.RoomsDecided) ∧ (record ≠ s.pc.record → t.awaitsWrite .pin)) ∧
    (r.kind = 0x41 → ∀ d, r.body = pinField d → PinForm d → s.pc.frozen = false →
      (s.pinState = .unset → exec .pinClear s = .next (s.answered r rest .noPin [])) ∧
      (s.pinState = .armed → s.pc.record.Accepts true d →
        let cleared : Parental := { s.pc with
          record := { s.pc.record with pin := none, attempts := 0 }
          passes := Vector.replicate 4 none }
        let plain : Profile := {
          ceiling := 6, blockUnrated := false, blocked := 0, purchasePin := false, window := none,
          locked := [] }
        let whole := s.pc.record.master = some d ∧ s.pc.record.level = .maximum
        ∃ t, exec .pinClear s = .next t ∧ t.RoomsDecided ∧ t.awaitsWrite .pin ∧
          (¬whole → ({ s.answered r rest .ok [] with pc := cleared } : State).Closes t) ∧
          (whole → ({ s.answered r rest .ok [] with pc := { cleared with
              profiles := Vector.replicate 4 plain
              bindings := Vector.replicate 4 0 } } : State).Closes t ∧
            (∀ p, t.awaitsWrite (.profile p)) ∧ t.awaitsWrite .bindings))) ∧
    (r.kind = 0x43 → r.body = [] →
      exec .freeze s = .next { s.answered r rest .ok [] with pc := { s.pc with frozen := true } })

/-- PROFILE SET replaces a profile whole, its locked list sorted and merged; BIND binds an output; PIN ENTER
opens a blocked room with a pass of its scope. Each past its checks, with the rooms it bears on decided anew;
and before them BAD_FIELD for a field outside its form, whatever the frozen flag and the PIN state, and PIN
ENTER's STANDBY, NOT_BLOCKED and NO_EVENT, with no PIN judged (R128, R132, R133, R136, R137, R142). -/
def Obligations.ProfileBindAndPinEnterTakeEffect : Prop :=
  ∀ (s : State) (r : Request) (rest : List Request) (d : List Nat), s.Serves r rest →
   (PinBytes d →
    (r.kind = 0x44 → ∀ (p ceiling unrated content purchase window : Byte) (opens closes : Nat)
      (channels : List Nat), opens < 65536 → closes < 65536 → channels.length < 256 →
      (∀ ch ∈ channels, ch < 65536) →
      r.body = profileSetBytes p ceiling unrated content purchase window opens closes channels d →
      3 < p.toNat ∨ 6 < ceiling.toNat ∨ 1 < unrated.toNat ∨ 15 < content.toNat ∨ 1 < purchase.toNat ∨
        1 < window.toNat ∨ (window = 1 ∧ (1439 < opens ∨ 1439 < closes ∨ opens = closes)) ∨
        16 < channels.length ∨ (∃ ch ∈ channels, ch = 0 ∨ 999 < ch) ∨ ¬PinForm d →
      exec .profileSet s = .next (s.answered r rest .badField [])) ∧
    (r.kind = 0x46 → ∀ a b : Byte, r.body = [a, b] ++ pinField d →
      3 < a.toNat ∨ 3 < b.toNat ∨ ¬PinForm d → exec .bind s = .next (s.answered r rest .badField [])) ∧
    (r.kind = 0x42 → ∀ a scope : Byte, r.body = [a, scope] ++ pinField d →
      3 < a.toNat ∨ 1 < scope.toNat ∨ ¬PinForm d →
      exec .pinEnter s = .next (s.answered r rest .badField []))) ∧
   (PinForm d →
    let pinWritten (t : State) : Prop := s.pc.record.accepted ≠ s.pc.record → t.awaitsWrite .pin
    (r.kind = 0x42 → ∀ (o : OutputId) (scope : Byte), r.body = [BitVec.ofNat 8 o.val, scope] ++ pinField d →
      scope.toNat ≤ 1 →
      ((∀ p : OutputId, s.ou[p].mode = .standby) →
        exec .pinEnter s = .next (s.answered r rest .standby [])) ∧
      ((∃ p : OutputId, s.ou[p].mode = .active) →
        ((∀ why, s.ae[o].decision ≠ .blockedParental why) →
          exec .pinEnter s = .next (s.answered r rest .notBlocked [])) ∧
        ((∃ why, s.ae[o].decision = .blockedParental why) → scope = 0 → s.currentOf o = none →
          exec .pinEnter s = .next (s.answered r rest .noEvent [])))) ∧
    (r.kind = 0x44 → ∀ (p : ProfileId) (v : Profile) (idle : Window) (channels : List Nat),
      r.body = profileSetBody p v idle channels d → ProfileForm v channels → s.pc.frozen = false →
      s.Authorises d →
      ∃ (t : State) (locked : List Nat), exec .profileSet s = .next t ∧ locked.Pairwise (· < ·) ∧
        (∀ c, c ∈ locked ↔ c ∈ channels) ∧
        ({ s.answered r rest .ok [] with pc := { s.pc with
          record := s.pc.record.accepted
          profiles := s.pc.profiles.set p { v with locked := locked } } } : State).Closes t ∧
        t.awaitsWrite (.profile p) ∧ pinWritten t ∧
        ∀ o : OutputId, t.ou[o].mode = .active → s.pc.bindings[o] = p → t.Evaluated o) ∧
    (r.kind = 0x46 → ∀ (o : OutputId) (p : ProfileId),
      r.body = [BitVec.ofNat 8 o.val, BitVec.ofNat 8 p.val] ++ pinField d → s.pc.frozen = false →
      s.Authorises d →
      ∃ t, exec .bind s = .next t ∧
        ({ s.answered r rest .ok [] with pc := { s.pc with
          record := s.pc.record.accepted
          bindings := s.pc.bindings.set o p } } : State).Closes t ∧
        pinWritten t ∧ (s.pc.bindings[o] ≠ p → t.awaitsWrite .bindings ∧
          (t.ou[o].mode = .active → t.Evaluated o))) ∧
    (r.kind = 0x42 → ∀ (o : OutputId) (scope : Byte) (ch : Nat) (pass : Pass),
      r.body = [BitVec.ofNat 8 o.val, scope] ++ pinField d → s.ou[o].mode = .active →
      s.ou[o].channel = some ch → (∃ why, s.ae[o].decision = .blockedParental why) →
      s.pinState = .armed → s.pc.record.Accepts false d →
      (scope = 0 ∧ (∃ e, s.current ch = some e ∧ pass = .event ch e.eventId)) ∨
        (scope = 1 ∧ pass = .channel ch 240) →
      ∃ t, exec .pinEnter s = .next t ∧
        ({ s.answered r rest .ok [] with pc := { s.pc with
          record := s.pc.record.accepted
          passes := s.pc.passes.set o (some pass) } } : State).Closes t ∧
        t.pc.passes[o] = some pass ∧ t.Evaluated o ∧ pinWritten t))

/-- A request that has reached its PIN check: FROZEN stands before it, a lockout refuses it, and a wrong PIN
is counted, the fifth starting a lockout of 15 minutes with PIN_LOCKOUT latched and every room decided anew
(R125, R126, R128, R143). -/
def Obligations.WrongPinsAreCountedAndLockOut : Prop :=
  ∀ (s : State) (r : Request) (rest : List Request) (c : Instr) (d : List Nat), s.Serves r rest →
    (s.pc.frozen = true → ({ s with pc := { s.pc with frozen := false } } : State).PinBearing c r d →
      c ≠ .pinEnter → exec c s = .next (s.answered r rest .frozen [])) ∧
    (s.PinBearing c r d →
      (s.pinState = .lockedOut → exec c s = .next (s.answered r rest .lockedOut [])) ∧
      (s.pinState = .armed → ¬s.pc.record.Accepts (decide (c = .pinClear)) d →
        let n := s.pc.record.attempts + 1
        (n < 5 → ∃ t, exec c s = .next t ∧ t.awaitsWrite .pin ∧
          ({ s.answered r rest .wrongPin [] with
            pc := { s.pc with record := { s.pc.record with attempts := n } } } : State).Closes t) ∧
        (5 ≤ n → ∃ t, exec c s = .next t ∧ t.awaitsWrite .pin ∧ t.RoomsDecided ∧
          (({ s.answered r rest .wrongPin [] with
            pc := { s.pc with record := { s.pc.record with attempts := n, lockout := 15 } } } :
              State).latch .pinLockout).Closes t)))

/-- MASTER sets level and master PIN and has PIN written, or is ignored where malformed (R140); PINRESET
removes the PIN, the attempts, the lockout and every pass (R141); GROUP sets the group address and has FEED
SETUP written (R181). -/
def Obligations.MasterPinresetAndGroupTakeEffect : Prop :=
  ∀ (s : State) (body : List Byte),
    (s.Hands 0x50 body →
      (body.length < 2 → exec .master s = .next s.packetGone) ∧
      ∀ level n more, body = level :: n :: more →
        let digits := more.take n.toNat
        let formed : Prop := level.toNat ≤ 1 ∧ n.toNat ≤ more.length ∧ (n.toNat = 0 ∨ 4 ≤ n.toNat) ∧
          n.toNat ≤ 8 ∧ ∀ x ∈ digits, x.toNat ≤ 9
        (¬formed → exec .master s = .next s.packetGone) ∧
        (formed → ∃ t, exec .master s = .next t ∧ t.awaitsWrite .pin ∧
          t = { s.packetGone with
            pc := { s.pc with record := { s.pc.record with
              level := if level = 0 then .high else .maximum
              master := if n = 0 then none else some (digits.map BitVec.toNat) } }
            ss := { s.ss with dirty := t.ss.dirty, engine := t.ss.engine } })) ∧
    (s.Hands 0x51 body →
      let record := { s.pc.record with pin := none, attempts := 0, lockout := 0 }
      ∃ t, exec .pinreset s = .next t ∧
        ({ s.packetGone with pc := { s.pc with record := record, passes := Vector.replicate 4 none } } :
          State).Closes t ∧
        (record ≠ s.pc.record → t.awaitsWrite .pin ∧ t.RoomsDecided)) ∧
    (s.Hands 0x45 body →
      (body.length < 2 → exec .group s = .next s.packetGone) ∧
      ∀ hi lo more, body = hi :: lo :: more → ∃ t, exec .group s = .next t ∧ t.awaitsWrite .feedSetup ∧
        t = { s.packetGone with
          hf := { s.packetGone.hf with setup := { s.hf.setup with group := (hi ++ lo).toNat } }
          ss := { s.ss with dirty := t.ss.dirty, engine := t.ss.engine } })

/-! ### The headend feed -/

/-- The port in its three modes: what an active edge, a release and a handshake timeout do, with FACK as the
receiver sees it (R166 to R171, R183), and nothing but the level on a closed port (R184). -/
def Obligations.FeedPortTakesBytesByItsMode : Prop :=
  ∀ (s : State) (fd : Byte),
    let ready : Prop := s.fackHigh = (s.hf.setup.fack == .activeHigh)
    let active : Prop := s.hf.fstbHigh = (s.hf.setup.fstb == .activeHigh)
    let h : HeadendFeed := { s.hf with fstbHigh := !s.hf.fstbHigh, fackHeld := false }
    let joined := s.hf.buffer ++ [.byte fd]
    let gapped := if s.hf.buffer.getLast? = some .gap then s.hf.buffer else s.hf.buffer ++ [.gap]
    let fault (f : FeedFault) (g : HeadendFeed) : State :=
      ({ s with hf := { g with lastFault := some f } } : State).latch .feedFault
    let edge := exec (.fstbActiveEdge fd) s
    let release := exec (.fstbRelease fd) s
    (active → edge = .next s) ∧ (¬active → release = .next s) ∧
    (¬active → s.phase ≠ .running → edge = .next { s with hf := h }) ∧
    (¬active → s.phase = .running →
      (s.hf.setup.mode = .strobe →
        (s.hf.byteCount < 512 → edge = .next { s with hf := { h with buffer := joined } }) ∧
        (512 ≤ s.hf.byteCount → edge = .next (fault .overrun { h with buffer := gapped }))) ∧
      (s.hf.setup.mode = .leading → ready →
        edge = .next { s with hf := { h with buffer := joined, handshake := true } }) ∧
      (s.hf.setup.mode = .trailing → ready → edge = .next { s with hf := { h with handshake := true } }) ∧
      (s.hf.setup.mode ≠ .strobe → ¬ready →
        edge = .next (fault .outOfTurn { h with buffer := gapped })) ∧
      (s.hf.setup.mode ≠ .strobe → s.hf.fackHeld = false → (ready ↔ s.hf.byteCount < 512)) ∧
      (s.hf.setup.mode = .strobe → ¬ready)) ∧
    (active →
      (s.phase = .running → ¬ready) ∧
      (s.phase = .running → s.hf.setup.mode = .trailing → s.hf.handshake = true →
        release = .next { s with hf := { h with handshake := false, buffer := joined } }) ∧
      (s.phase ≠ .running ∨ s.hf.setup.mode ≠ .trailing ∨ s.hf.handshake = false →
        release = .next { s with hf := { h with handshake := false } })) ∧
    (s.phase ≠ .running ∨ s.hf.handshake = false → exec .handshakeTimeout s = .next s) ∧
    (s.phase = .running → s.hf.handshake = true →
      (s.hf.setup.mode = .leading →
        exec .handshakeTimeout s = .next (fault .timeout { s.hf with handshake := false })) ∧
      (s.hf.setup.mode = .trailing →
        exec .handshakeTimeout s =
          .next (fault .timeout { s.hf with handshake := false, buffer := gapped })))

/-- The assembler reads the next byte or comes to the next mark as its state says: the sync in HUNT, bytes 1
to 7 in HEADER and what follows from the length, a gap mark anywhere, the two CRC bytes, and what the match,
the mismatch and the address filter come to (R173 to R177, R179). -/
def Obligations.AssemblerReadsCandidates : Prop :=
  ∀ s : State, s.phase = .running →
    let goes (a : Assembler) : Host.Outcome State Fault Refusal :=
      .next { s with hf := { s.hf with assembler := a } }
    let drops (n : Nat) : Host.Outcome State Fault Refusal :=
      .next { s with hf := { s.hf with buffer := s.hf.buffer.drop n, assembler := .hunt } }
    let read := exec .assemblerByteRead s
    let atMark := exec .assemblerGapMark s
    (s.hf.assembler = .handing → read = .next s ∧ atMark = .next s) ∧
    (s.hf.assembler = .hunt →
      (s.hf.buffer.head? = none → read = .next s ∧ atMark = .next s) ∧
      (s.hf.buffer.head? = some .gap → read = .next s ∧ atMark = drops 1) ∧
      ∀ b, s.hf.buffer.head? = some (.byte b) →
        atMark = .next s ∧ (b = 0x9C → read = goes (.header 1)) ∧ (b ≠ 0x9C → read = drops 1)) ∧
    ∀ n, s.hf.assembler = .header n ∨ s.hf.assembler = .body n ∨ s.hf.assembler = .check n →
      (s.hf.buffer[n]? = none → read = .next s ∧ atMark = .next s) ∧
      (s.hf.buffer[n]? = some .gap → read = .next s ∧ atMark = drops (n + 1)) ∧
      ∀ b, s.hf.buffer[n]? = some (.byte b) →
        atMark = .next s ∧
        (s.hf.assembler = .header n →
          (n < 7 → read = goes (.header (n + 1))) ∧
          (n = 7 →
            (232 < b.toNat → read = drops 1) ∧ (b.toNat = 0 → read = goes (.check 8)) ∧
            (1 ≤ b.toNat → b.toNat ≤ 232 → read = goes (.body 8)))) ∧
        ∀ (packet : List Byte) (more : List FeedItem), s.hf.buffer = packet.map .byte ++ more →
          8 ≤ packet.length → n < packet.length →
          let len := (packet.getD 7 0).toNat
          (s.hf.assembler = .body n →
            (n + 1 < 8 + len → read = goes (.body (n + 1))) ∧
            (8 + len ≤ n + 1 → read = goes (.check (n + 1)))) ∧
          (s.hf.assembler = .check n →
            (n + 1 < 10 + len → read = goes (.check (n + 1))) ∧
            (n + 1 = 10 + len → packet.length = 10 + len →
              let here := AddressedHere (packet.getD 1 0) (packet.getD 2 0)
                (beNat ((packet.drop 3).take 4)) s.hf.setup.group s.unitAddress
              (crc ((packet.drop 1).take (7 + len)) ≠ packet.getD (8 + len) 0 ++ packet.getD (9 + len) 0 →
                read = drops 1) ∧
              (crc ((packet.drop 1).take (7 + len)) = packet.getD (8 + len) 0 ++ packet.getD (9 + len) 0 →
                (here → read = .next { s with hf := { s.hf with assembler := .handing, silence := true } }) ∧
                (¬here → read = .next { s with hf := { s.hf with
                  buffer := s.hf.buffer.drop (10 + len), assembler := .hunt, silence := true } }))))

/-- FEED SETUP sets mode and polarities, empties the buffer and has its record written (R182); whether FACK
is held inactive against the edge waiting next is the model's choice (log 6). The silence timer's expiry
latches FEED_SILENT and stops it (R178). -/
def Obligations.FeedSetupAndSilenceTakeEffect : Prop :=
  ∀ s : State,
    (∀ r rest a b c, s.Serves r rest → r.kind = 0x50 → r.body = [a, b, c] →
      (2 < a.toNat ∨ 1 < b.toNat ∨ 1 < c.toNat →
        exec .feedSetup s = .next (s.answered r rest .badField [])) ∧
      (a.toNat ≤ 2 → b.toNat ≤ 1 → c.toNat ≤ 1 →
        ∃ (t : State) (held : Bool), exec .feedSetup s = .next t ∧ t.awaitsWrite .feedSetup ∧
          ((∀ fd, s.pending.head? ≠ some (.fstbActiveEdge fd)) → held = false) ∧
          t = { s.answered r rest .ok [] with
            hf := { s.hf with
              setup := { s.hf.setup with
                mode := if a = 0 then .strobe else if a = 1 then .leading else .trailing
                fstb := if b = 0 then .activeHigh else .activeLow
                fack := if c = 0 then .activeHigh else .activeLow }
              buffer := []
              assembler := .hunt
              handshake := false
              fackHeld := held }
            ss := { s.ss with dirty := t.ss.dirty, engine := t.ss.engine } })) ∧
    (s.phase = .running → s.hf.silence = true →
      exec .silenceTimerExpiry s =
        .next (({ s with hf := { s.hf with silence := false } } : State).latch .feedSilent)) ∧
    (s.phase ≠ .running ∨ s.hf.silence = false → exec .silenceTimerExpiry s = .next s)
end

