-- ==== Sys2Proof/Laws/State.lean ====
section
/-! SUPPORT. What each update of the state leaves in each of its fields. -/

namespace Sys2Proof.Machine

variable (s : State)

/-! ### setOutput -/

@[simp] theorem State.setOutput_phase (o : OutputId) (x : Output) : (s.setOutput o x).phase = s.phase := rfl
@[simp] theorem State.setOutput_cl (o : OutputId) (x : Output) : (s.setOutput o x).cl = s.cl := rfl
@[simp] theorem State.setOutput_hf (o : OutputId) (x : Output) : (s.setOutput o x).hf = s.hf := rfl
@[simp] theorem State.setOutput_tb (o : OutputId) (x : Output) : (s.setOutput o x).tb = s.tb := rfl
@[simp] theorem State.setOutput_cm (o : OutputId) (x : Output) : (s.setOutput o x).cm = s.cm := rfl
@[simp] theorem State.setOutput_tp (o : OutputId) (x : Output) : (s.setOutput o x).tp = s.tp := rfl
@[simp] theorem State.setOutput_ou (o : OutputId) (x : Output) : (s.setOutput o x).ou = s.ou.set o x := rfl
@[simp] theorem State.setOutput_pg (o : OutputId) (x : Output) : (s.setOutput o x).pg = s.pg := rfl
@[simp] theorem State.setOutput_ep (o : OutputId) (x : Output) : (s.setOutput o x).ep = s.ep := rfl
@[simp] theorem State.setOutput_pc (o : OutputId) (x : Output) : (s.setOutput o x).pc = s.pc := rfl
@[simp] theorem State.setOutput_ae (o : OutputId) (x : Output) : (s.setOutput o x).ae = s.ae := rfl
@[simp] theorem State.setOutput_ss (o : OutputId) (x : Output) : (s.setOutput o x).ss = s.ss := rfl
@[simp] theorem State.setOutput_pins (o : OutputId) (x : Output) : (s.setOutput o x).pins = s.pins := rfl
@[simp] theorem State.setOutput_pending (o : OutputId) (x : Output) :
    (s.setOutput o x).pending = s.pending := rfl

/-! ### attach -/

@[simp] theorem State.attach_phase (o : OutputId) (a : Attachment) : (s.attach o a).phase = s.phase := rfl
@[simp] theorem State.attach_cl (o : OutputId) (a : Attachment) : (s.attach o a).cl = s.cl := rfl
@[simp] theorem State.attach_hf (o : OutputId) (a : Attachment) : (s.attach o a).hf = s.hf := rfl
@[simp] theorem State.attach_tb (o : OutputId) (a : Attachment) : (s.attach o a).tb = s.tb := rfl
@[simp] theorem State.attach_cm (o : OutputId) (a : Attachment) : (s.attach o a).cm = s.cm := rfl
@[simp] theorem State.attach_tp (o : OutputId) (a : Attachment) : (s.attach o a).tp = s.tp := rfl
@[simp] theorem State.attach_ou (o : OutputId) (a : Attachment) :
    (s.attach o a).ou = s.ou.set o { s.ou[o] with attachment := a } := rfl
@[simp] theorem State.attach_pg (o : OutputId) (a : Attachment) : (s.attach o a).pg = s.pg := rfl
@[simp] theorem State.attach_ep (o : OutputId) (a : Attachment) : (s.attach o a).ep = s.ep := rfl
@[simp] theorem State.attach_pc (o : OutputId) (a : Attachment) : (s.attach o a).pc = s.pc := rfl
@[simp] theorem State.attach_ae (o : OutputId) (a : Attachment) : (s.attach o a).ae = s.ae := rfl
@[simp] theorem State.attach_ss (o : OutputId) (a : Attachment) : (s.attach o a).ss = s.ss := rfl
@[simp] theorem State.attach_pins (o : OutputId) (a : Attachment) : (s.attach o a).pins = s.pins := rfl
@[simp] theorem State.attach_pending (o : OutputId) (a : Attachment) :
    (s.attach o a).pending = s.pending := rfl

/-! ### setTuner -/

@[simp] theorem State.setTuner_phase (u : TunerId) (x : Tuner) : (s.setTuner u x).phase = s.phase := rfl
@[simp] theorem State.setTuner_cl (u : TunerId) (x : Tuner) : (s.setTuner u x).cl = s.cl := rfl
@[simp] theorem State.setTuner_hf (u : TunerId) (x : Tuner) : (s.setTuner u x).hf = s.hf := rfl
@[simp] theorem State.setTuner_tb (u : TunerId) (x : Tuner) : (s.setTuner u x).tb = s.tb := rfl
@[simp] theorem State.setTuner_cm (u : TunerId) (x : Tuner) : (s.setTuner u x).cm = s.cm := rfl
@[simp] theorem State.setTuner_tp (u : TunerId) (x : Tuner) :
    (s.setTuner u x).tp = { s.tp with tuners := s.tp.tuners.set u x } := rfl
@[simp] theorem State.setTuner_ou (u : TunerId) (x : Tuner) : (s.setTuner u x).ou = s.ou := rfl
@[simp] theorem State.setTuner_pg (u : TunerId) (x : Tuner) : (s.setTuner u x).pg = s.pg := rfl
@[simp] theorem State.setTuner_ep (u : TunerId) (x : Tuner) : (s.setTuner u x).ep = s.ep := rfl
@[simp] theorem State.setTuner_pc (u : TunerId) (x : Tuner) : (s.setTuner u x).pc = s.pc := rfl
@[simp] theorem State.setTuner_ae (u : TunerId) (x : Tuner) : (s.setTuner u x).ae = s.ae := rfl
@[simp] theorem State.setTuner_ss (u : TunerId) (x : Tuner) : (s.setTuner u x).ss = s.ss := rfl
@[simp] theorem State.setTuner_pins (u : TunerId) (x : Tuner) : (s.setTuner u x).pins = s.pins := rfl
@[simp] theorem State.setTuner_pending (u : TunerId) (x : Tuner) : (s.setTuner u x).pending = s.pending := rfl

/-! ### setPass -/

@[simp] theorem State.setPass_phase (o : OutputId) (p : Option Pass) : (s.setPass o p).phase = s.phase := rfl
@[simp] theorem State.setPass_cl (o : OutputId) (p : Option Pass) : (s.setPass o p).cl = s.cl := rfl
@[simp] theorem State.setPass_hf (o : OutputId) (p : Option Pass) : (s.setPass o p).hf = s.hf := rfl
@[simp] theorem State.setPass_tb (o : OutputId) (p : Option Pass) : (s.setPass o p).tb = s.tb := rfl
@[simp] theorem State.setPass_cm (o : OutputId) (p : Option Pass) : (s.setPass o p).cm = s.cm := rfl
@[simp] theorem State.setPass_tp (o : OutputId) (p : Option Pass) : (s.setPass o p).tp = s.tp := rfl
@[simp] theorem State.setPass_ou (o : OutputId) (p : Option Pass) : (s.setPass o p).ou = s.ou := rfl
@[simp] theorem State.setPass_pg (o : OutputId) (p : Option Pass) : (s.setPass o p).pg = s.pg := rfl
@[simp] theorem State.setPass_ep (o : OutputId) (p : Option Pass) : (s.setPass o p).ep = s.ep := rfl
@[simp] theorem State.setPass_pc (o : OutputId) (p : Option Pass) :
    (s.setPass o p).pc = { s.pc with passes := s.pc.passes.set o p } := rfl
@[simp] theorem State.setPass_ae (o : OutputId) (p : Option Pass) : (s.setPass o p).ae = s.ae := rfl
@[simp] theorem State.setPass_ss (o : OutputId) (p : Option Pass) : (s.setPass o p).ss = s.ss := rfl
@[simp] theorem State.setPass_pins (o : OutputId) (p : Option Pass) : (s.setPass o p).pins = s.pins := rfl
@[simp] theorem State.setPass_pending (o : OutputId) (p : Option Pass) :
    (s.setPass o p).pending = s.pending := rfl

/-! ### emit -/

@[simp] theorem State.emit_phase (e : PinEvent) : (s.emit e).phase = s.phase := rfl
@[simp] theorem State.emit_cl (e : PinEvent) : (s.emit e).cl = s.cl := rfl
@[simp] theorem State.emit_hf (e : PinEvent) : (s.emit e).hf = s.hf := rfl
@[simp] theorem State.emit_tb (e : PinEvent) : (s.emit e).tb = s.tb := rfl
@[simp] theorem State.emit_cm (e : PinEvent) : (s.emit e).cm = s.cm := rfl
@[simp] theorem State.emit_tp (e : PinEvent) : (s.emit e).tp = s.tp := rfl
@[simp] theorem State.emit_ou (e : PinEvent) : (s.emit e).ou = s.ou := rfl
@[simp] theorem State.emit_pg (e : PinEvent) : (s.emit e).pg = s.pg := rfl
@[simp] theorem State.emit_ep (e : PinEvent) : (s.emit e).ep = s.ep := rfl
@[simp] theorem State.emit_pc (e : PinEvent) : (s.emit e).pc = s.pc := rfl
@[simp] theorem State.emit_ae (e : PinEvent) : (s.emit e).ae = s.ae := rfl
@[simp] theorem State.emit_ss (e : PinEvent) : (s.emit e).ss = s.ss := rfl
@[simp] theorem State.emit_pins (e : PinEvent) :
    (s.emit e).pins = { s.pins with wave := s.pins.wave ++ [e] } := rfl
@[simp] theorem State.emit_pending (e : PinEvent) : (s.emit e).pending = s.pending := rfl

/-! ### latch -/

@[simp] theorem State.latch_phase (n : Notice) : (s.latch n).phase = s.phase := rfl
@[simp] theorem State.latch_cl (n : Notice) : (s.latch n).cl = s.cl.setLatch n := rfl
@[simp] theorem State.latch_hf (n : Notice) : (s.latch n).hf = s.hf := rfl
@[simp] theorem State.latch_tb (n : Notice) : (s.latch n).tb = s.tb := rfl
@[simp] theorem State.latch_cm (n : Notice) : (s.latch n).cm = s.cm := rfl
@[simp] theorem State.latch_tp (n : Notice) : (s.latch n).tp = s.tp := rfl
@[simp] theorem State.latch_ou (n : Notice) : (s.latch n).ou = s.ou := rfl
@[simp] theorem State.latch_pg (n : Notice) : (s.latch n).pg = s.pg := rfl
@[simp] theorem State.latch_ep (n : Notice) : (s.latch n).ep = s.ep := rfl
@[simp] theorem State.latch_pc (n : Notice) : (s.latch n).pc = s.pc := rfl
@[simp] theorem State.latch_ae (n : Notice) : (s.latch n).ae = s.ae := rfl
@[simp] theorem State.latch_ss (n : Notice) : (s.latch n).ss = s.ss := rfl
@[simp] theorem State.latch_pins (n : Notice) : (s.latch n).pins = s.pins := rfl
@[simp] theorem State.latch_pending (n : Notice) : (s.latch n).pending = s.pending := rfl

/-! ### markDirty -/

@[simp] theorem State.markDirty_phase (r : RecordId) : (s.markDirty r).phase = s.phase := rfl
@[simp] theorem State.markDirty_cl (r : RecordId) : (s.markDirty r).cl = s.cl := rfl
@[simp] theorem State.markDirty_hf (r : RecordId) : (s.markDirty r).hf = s.hf := rfl
@[simp] theorem State.markDirty_tb (r : RecordId) : (s.markDirty r).tb = s.tb := rfl
@[simp] theorem State.markDirty_cm (r : RecordId) : (s.markDirty r).cm = s.cm := rfl
@[simp] theorem State.markDirty_tp (r : RecordId) : (s.markDirty r).tp = s.tp := rfl
@[simp] theorem State.markDirty_ou (r : RecordId) : (s.markDirty r).ou = s.ou := rfl
@[simp] theorem State.markDirty_pg (r : RecordId) : (s.markDirty r).pg = s.pg := rfl
@[simp] theorem State.markDirty_ep (r : RecordId) : (s.markDirty r).ep = s.ep := rfl
@[simp] theorem State.markDirty_pc (r : RecordId) : (s.markDirty r).pc = s.pc := rfl
@[simp] theorem State.markDirty_ae (r : RecordId) : (s.markDirty r).ae = s.ae := rfl
@[simp] theorem State.markDirty_ss (r : RecordId) :
    (s.markDirty r).ss = { s.ss with dirty := joinDirty r s.ss.dirty } := rfl
@[simp] theorem State.markDirty_pins (r : RecordId) : (s.markDirty r).pins = s.pins := rfl
@[simp] theorem State.markDirty_pending (r : RecordId) : (s.markDirty r).pending = s.pending := rfl

/-! ### pushReply -/

@[simp] theorem State.pushReply_phase (r : Reply) : (s.pushReply r).phase = s.phase := rfl
@[simp] theorem State.pushReply_cl (r : Reply) :
    (s.pushReply r).cl = { s.cl with transmit := s.cl.transmit ++ [r] } := rfl
@[simp] theorem State.pushReply_hf (r : Reply) : (s.pushReply r).hf = s.hf := rfl
@[simp] theorem State.pushReply_tb (r : Reply) : (s.pushReply r).tb = s.tb := rfl
@[simp] theorem State.pushReply_cm (r : Reply) : (s.pushReply r).cm = s.cm := rfl
@[simp] theorem State.pushReply_tp (r : Reply) : (s.pushReply r).tp = s.tp := rfl
@[simp] theorem State.pushReply_ou (r : Reply) : (s.pushReply r).ou = s.ou := rfl
@[simp] theorem State.pushReply_pg (r : Reply) : (s.pushReply r).pg = s.pg := rfl
@[simp] theorem State.pushReply_ep (r : Reply) : (s.pushReply r).ep = s.ep := rfl
@[simp] theorem State.pushReply_pc (r : Reply) : (s.pushReply r).pc = s.pc := rfl
@[simp] theorem State.pushReply_ae (r : Reply) : (s.pushReply r).ae = s.ae := rfl
@[simp] theorem State.pushReply_ss (r : Reply) : (s.pushReply r).ss = s.ss := rfl
@[simp] theorem State.pushReply_pins (r : Reply) : (s.pushReply r).pins = s.pins := rfl
@[simp] theorem State.pushReply_pending (r : Reply) : (s.pushReply r).pending = s.pending := rfl

/-! ### answered -/

@[simp] theorem State.answered_phase (r : Request) (rest : List Request) (st : Status) (body : List Byte) :
    (s.answered r rest st body).phase = s.phase := rfl
@[simp] theorem State.answered_cl (r : Request) (rest : List Request) (st : Status) (body : List Byte) :
    (s.answered r rest st body).cl = { s.cl with queue := rest, transmit := s.cl.transmit ++ [⟨r.kind ||| 0x80, r.tag, st, body⟩] } := rfl
@[simp] theorem State.answered_hf (r : Request) (rest : List Request) (st : Status) (body : List Byte) :
    (s.answered r rest st body).hf = s.hf := rfl
@[simp] theorem State.answered_tb (r : Request) (rest : List Request) (st : Status) (body : List Byte) :
    (s.answered r rest st body).tb = s.tb := rfl
@[simp] theorem State.answered_cm (r : Request) (rest : List Request) (st : Status) (body : List Byte) :
    (s.answered r rest st body).cm = s.cm := rfl
@[simp] theorem State.answered_tp (r : Request) (rest : List Request) (st : Status) (body : List Byte) :
    (s.answered r rest st body).tp = s.tp := rfl
@[simp] theorem State.answered_ou (r : Request) (rest : List Request) (st : Status) (body : List Byte) :
    (s.answered r rest st body).ou = s.ou := rfl
@[simp] theorem State.answered_pg (r : Request) (rest : List Request) (st : Status) (body : List Byte) :
    (s.answered r rest st body).pg = s.pg := rfl
@[simp] theorem State.answered_ep (r : Request) (rest : List Request) (st : Status) (body : List Byte) :
    (s.answered r rest st body).ep = s.ep := rfl
@[simp] theorem State.answered_pc (r : Request) (rest : List Request) (st : Status) (body : List Byte) :
    (s.answered r rest st body).pc = s.pc := rfl
@[simp] theorem State.answered_ae (r : Request) (rest : List Request) (st : Status) (body : List Byte) :
    (s.answered r rest st body).ae = s.ae := rfl
@[simp] theorem State.answered_ss (r : Request) (rest : List Request) (st : Status) (body : List Byte) :
    (s.answered r rest st body).ss = s.ss := rfl
@[simp] theorem State.answered_pins (r : Request) (rest : List Request) (st : Status) (body : List Byte) :
    (s.answered r rest st body).pins = s.pins := rfl
@[simp] theorem State.answered_pending (r : Request) (rest : List Request) (st : Status) (body : List Byte) :
    (s.answered r rest st body).pending = s.pending := rfl

/-! ### packetGone -/

@[simp] theorem State.packetGone_phase :
    (s.packetGone).phase = s.phase := rfl
@[simp] theorem State.packetGone_cl :
    (s.packetGone).cl = s.cl := rfl
@[simp] theorem State.packetGone_hf :
    (s.packetGone).hf = { s.hf with buffer := s.hf.buffer.drop (10 + s.hf.bodyLength), assembler := .hunt } := rfl
@[simp] theorem State.packetGone_tb :
    (s.packetGone).tb = s.tb := rfl
@[simp] theorem State.packetGone_cm :
    (s.packetGone).cm = s.cm := rfl
@[simp] theorem State.packetGone_tp :
    (s.packetGone).tp = s.tp := rfl
@[simp] theorem State.packetGone_ou :
    (s.packetGone).ou = s.ou := rfl
@[simp] theorem State.packetGone_pg :
    (s.packetGone).pg = s.pg := rfl
@[simp] theorem State.packetGone_ep :
    (s.packetGone).ep = s.ep := rfl
@[simp] theorem State.packetGone_pc :
    (s.packetGone).pc = s.pc := rfl
@[simp] theorem State.packetGone_ae :
    (s.packetGone).ae = s.ae := rfl
@[simp] theorem State.packetGone_ss :
    (s.packetGone).ss = s.ss := rfl
@[simp] theorem State.packetGone_pins :
    (s.packetGone).pins = s.pins := rfl
@[simp] theorem State.packetGone_pending :
    (s.packetGone).pending = s.pending := rfl

end Sys2Proof.Machine
end

