-- ==== Sys2Proof/Laws/Pins.lean ====
section
/-! SUPPORT. What the pin operations do: all of the state but the pins stands, the record of pin moves
grows at its end, and the gates go where they are driven. -/

namespace Sys2Proof.Machine

/-- Two states that differ in their pins alone, the record of `t` going on from that of `s`. -/
structure State.PinsOnly (s t : State) : Prop where
  rest : t = { s with pins := t.pins }
  wave : ∃ w, t.pins.wave = s.pins.wave ++ w

theorem State.PinsOnly.refl (s : State) : s.PinsOnly s := ⟨rfl, [], by simp⟩

theorem State.PinsOnly.trans {s t u : State} (h : s.PinsOnly t) (k : t.PinsOnly u) : s.PinsOnly u := by
  obtain ⟨a, ha⟩ := h.wave
  obtain ⟨b, hb⟩ := k.wave
  refine ⟨?_, a ++ b, by rw [hb, ha, List.append_assoc]⟩
  have hk := k.rest
  rw [h.rest] at hk
  exact hk

theorem State.drivePicture_pinsOnly (o : OutputId) (b : Bool) (s : State) :
    s.PinsOnly (s.drivePicture o b) := by
  unfold State.drivePicture
  split
  · exact .refl s
  · exact ⟨rfl, _, rfl⟩

theorem State.driveDescramble_pinsOnly (o : OutputId) (b : Bool) (s : State) :
    s.PinsOnly (s.driveDescramble o b) := by
  unfold State.driveDescramble
  split
  · exact .refl s
  · exact ⟨rfl, _, rfl⟩

theorem State.driveGates_pinsOnly (o : OutputId) (p d : Bool) (s : State) :
    s.PinsOnly (s.driveGates o p d) := by
  unfold State.driveGates
  split
  · exact (drivePicture_pinsOnly o p s).trans (driveDescramble_pinsOnly o true _)
  · exact (driveDescramble_pinsOnly o false s).trans (drivePicture_pinsOnly o p _)

theorem State.loadRoute_pinsOnly (o : OutputId) (r : Option Route) (s : State) :
    s.PinsOnly (s.loadRoute o r) :=
  ((driveDescramble_pinsOnly o false s).trans (drivePicture_pinsOnly o false _)).trans ⟨rfl, _, rfl⟩

theorem State.loadRoutes_pinsOnly (old s : State) : s.PinsOnly (State.loadRoutes old s) := by
  unfold State.loadRoutes
  suffices h : ∀ (l : List OutputId) (a : State), s.PinsOnly a → s.PinsOnly
      (l.foldl (fun acc o => if old.route o = s.route o then acc else acc.loadRoute o (s.route o)) a) from
    h allOutputs s (.refl s)
  intro l
  induction l with
  | nil => intro a ha; exact ha
  | cons o l ih =>
    intro a ha
    refine ih _ ?_
    beta_reduce
    split
    · exact ha
    · exact ha.trans (loadRoute_pinsOnly o _ a)

theorem State.darken_pinsOnly (s : State) : s.PinsOnly s.darken := by
  unfold State.darken
  suffices h : ∀ (l : List OutputId) (a : State), s.PinsOnly a →
      s.PinsOnly (l.foldl (fun acc o => acc.loadRoute o none) a) from h allOutputs s (.refl s)
  intro l
  induction l with
  | nil => intro a ha; exact ha
  | cons o l ih => intro a ha; exact ih _ (ha.trans (loadRoute_pinsOnly o none a))

theorem State.cutReply_pinsOnly (s : State) : s.PinsOnly s.cutReply := by
  unfold State.cutReply
  split
  · exact .refl s
  · exact ⟨rfl, _, rfl⟩

/-- The reply on LTXD is cut off after some levels (R196). -/
theorem State.cutReply_wave {s : State} {r : Reply} (h : s.transmitting = some r) :
    ∃ n, s.cutReply.pins.wave = s.pins.wave ++ [.replyCut r.frame n] := by
  refine ⟨Config.levelsSent s.pins.wave.length, ?_⟩
  simp [State.cutReply, h, State.emit]

/-- The assertion of the RESET line: the pins apart, the part is held, its timers stopped, and the store has
no write in progress and nothing dirty (R196, R211, R212). -/
theorem State.assertReset_rest (s : State) :
    ({ s with phase := .held
              hf := { s.hf with handshake := false, silence := false }
              ss := { s.ss with dirty := [], engine := none } } : State).PinsOnly s.assertReset := by
  have cut := s.cutReply_pinsOnly
  unfold State.assertReset
  generalize s.cutReply = c at cut ⊢
  obtain ⟨rest, wave⟩ := cut
  refine .trans ⟨?_, ?_⟩ (darken_pinsOnly _)
  · rw [rest]
  · exact wave

/-- The picture gate goes where it is driven, and no other gate moves. -/
theorem State.drivePicture_gates (o : OutputId) (b : Bool) (s : State) :
    (s.drivePicture o b).pins.picture = s.pins.picture.set o b ∧
      (s.drivePicture o b).pins.descramble = s.pins.descramble := by
  unfold State.drivePicture
  split
  · rename_i h
    refine ⟨?_, rfl⟩
    apply Vector.ext
    intro i hi
    by_cases e : o.val = i
    · subst e; simpa using h
    · simp [e]
  · exact ⟨rfl, rfl⟩

/-- The descramble gate goes where it is driven, and no other gate moves. -/
theorem State.driveDescramble_gates (o : OutputId) (b : Bool) (s : State) :
    (s.driveDescramble o b).pins.descramble = s.pins.descramble.set o b ∧
      (s.driveDescramble o b).pins.picture = s.pins.picture := by
  unfold State.driveDescramble
  split
  · rename_i h
    refine ⟨?_, rfl⟩
    apply Vector.ext
    intro i hi
    by_cases e : o.val = i
    · subst e; simpa using h
    · simp [e]
  · exact ⟨rfl, rfl⟩

/-- Both gates go where the evaluation drives them, and no other output's gate moves (R156). -/
theorem State.driveGates_gates (o : OutputId) (p d : Bool) (s : State) :
    (s.driveGates o p d).pins.picture = s.pins.picture.set o p ∧
      (s.driveGates o p d).pins.descramble = s.pins.descramble.set o d := by
  unfold State.driveGates
  split
  · rename_i h
    subst h
    have a := drivePicture_gates o p s
    have b := driveDescramble_gates o true (s.drivePicture o p)
    exact ⟨by rw [b.2, a.1], by rw [b.1, a.2]⟩
  · rename_i h
    have hd : d = false := by simpa using h
    subst hd
    have a := driveDescramble_gates o false s
    have b := drivePicture_gates o p (s.driveDescramble o false)
    exact ⟨by rw [b.1, a.2], by rw [b.2, a.1]⟩

end Sys2Proof.Machine
end

