-- ==== Sys2Proof/Laws/Store.lean ====
section
/-! SUPPORT. The dirty set and the write engine: what joining the set and starting a write do. -/

namespace Sys2Proof.Machine

/-- No two records share a place in the class order (R208). -/
theorem RecordId.rank_inj {a b : RecordId} (h : a.rank = b.rank) : a = b := by
  cases a <;> cases b <;> simp only [RecordId.rank] at h <;> first
    | rfl
    | (congr 1; apply Fin.ext; omega)
    | (exfalso; omega)

/-- A record that joins the dirty set is in it, and no other comes or goes (R207). -/
theorem mem_joinDirty {r x : RecordId} {l : List RecordId} : x ∈ joinDirty r l ↔ x = r ∨ x ∈ l := by
  induction l with
  | nil => simp [joinDirty]
  | cons y ys ih =>
    unfold joinDirty
    split
    · simp
    · split
      · rename_i h
        have := RecordId.rank_inj h
        subst this
        simp
      · simp only [List.mem_cons, ih]
        constructor
        · rintro (h | h | h) <;> simp [h]
        · rintro (h | h | h) <;> simp [h]

/-- Joining keeps the class order and brings no duplicate (R207, R208). -/
theorem joinDirty_pairwise {r : RecordId} {l : List RecordId}
    (h : l.Pairwise (fun a b => a.rank < b.rank)) :
    (joinDirty r l).Pairwise (fun a b => a.rank < b.rank) := by
  induction l with
  | nil => simp [joinDirty]
  | cons y ys ih =>
    rw [List.pairwise_cons] at h
    unfold joinDirty
    split
    · rename_i hr
      rw [List.pairwise_cons]
      refine ⟨?_, List.pairwise_cons.mpr h⟩
      intro a ha
      rcases List.mem_cons.mp ha with rfl | ha
      · exact hr
      · exact lt_trans hr (h.1 a ha)
    · split
      · exact List.pairwise_cons.mpr h
      · rename_i h1 h2
        rw [List.pairwise_cons]
        refine ⟨?_, ih h.2⟩
        intro a ha
        rcases mem_joinDirty.mp ha with rfl | ha
        · omega
        · exact h.1 a ha

/-- All that starting a write does (R208, R209). -/
theorem State.startWrite_cases (s : State) :
    (s.startWrite = s ∧ (s.ss.engine ≠ none ∨ s.ss.dirty = [])) ∨
      ∃ r rest, s.ss.engine = none ∧ s.ss.dirty = r :: rest ∧
        s.startWrite = { s with ss := { s.ss with engine := some (s.supply r),
                                                  dirty := dirtyAfterStart r rest } } := by
  unfold State.startWrite
  split
  · rename_i r rest he hd
    exact .inr ⟨r, rest, he, hd, rfl⟩
  · rename_i h
    refine .inl ⟨rfl, ?_⟩
    cases he : s.ss.engine with
    | some c => exact .inl (by simp)
    | none =>
      cases hd : s.ss.dirty with
      | nil => exact .inr rfl
      | cons r rest => exact absurd hd (h r rest he)

/-- A start of a write touches the engine and the dirty set alone. -/
theorem State.startWrite_rest (s : State) :
    s.startWrite = { s with ss := { s.ss with dirty := s.startWrite.ss.dirty,
                                              engine := s.startWrite.ss.engine } } := by
  rcases s.startWrite_cases with ⟨h, -⟩ | ⟨r, rest, -, -, h⟩
  · rw [h]
  · rw [h]

/-- What a write leaves dirty: its own record goes, and SEQUENCE with a slot (R209). -/
theorem mem_dirtyAfterStart {r x : RecordId} {rest : List RecordId} :
    x ∈ dirtyAfterStart r rest ↔ x ∈ rest ∧ ¬(x = .sequence ∧ ∃ k, r = .slot k) := by
  cases r <;> simp [dirtyAfterStart]

/-- A record marked dirty awaits its write once the event has closed (R207, R208). -/
theorem State.awaitsWrite_startWrite {s : State} {r : RecordId} (h : r ∈ s.ss.dirty)
    (hr : r ≠ .sequence) : s.startWrite.awaitsWrite r := by
  rcases s.startWrite_cases with ⟨e, -⟩ | ⟨q, rest, -, hd, e⟩
  · exact .inl (by rw [e]; exact h)
  · rw [hd] at h
    rcases List.mem_cons.mp h with rfl | h
    · refine .inr ?_
      rw [e]
      cases r <;> rfl
    · refine .inl ?_
      rw [e]
      exact mem_dirtyAfterStart.mpr ⟨h, fun k => hr k.1⟩

end Sys2Proof.Machine
end

