-- ==== Sys2Proof/Laws/Close.lean ====
section
/-! SUPPORT. The evaluation of an output and the close of an event: what they touch. -/

namespace Sys2Proof.Machine

/-- A latch set is set, and no other changes (R197). -/
theorem Notice.index_inj {a b : Notice} (h : a.index = b.index) : a = b := by
  cases a <;> cases b <;> simp only [Notice.index] at h <;> first
    | rfl
    | (congr 1; apply Fin.ext; omega)
    | (exfalso; omega)

theorem Notice.index_lt (n : Notice) : n.index < 17 := by
  cases n <;> simp only [Notice.index] <;> omega

theorem ControlLink.isSet_setLatch (c : ControlLink) (m n : Notice) :
    (c.setLatch m).isSet n = (decide (n = m) || c.isSet n) := by
  have hn := n.index_lt
  have hm := m.index_lt
  unfold ControlLink.isSet ControlLink.setLatch
  simp only [BitVec.getLsbD_or, BitVec.getLsbD_twoPow]
  by_cases h : n = m
  · subst h; simp [hn]
  · have h' : m.index ≠ n.index := fun e => h (Notice.index_inj e).symm
    simp [h, h']

theorem ControlLink.isSet_clearLatch (c : ControlLink) (m n : Notice) :
    (c.clearLatch m).isSet n = (!decide (n = m) && c.isSet n) := by
  have hn := n.index_lt
  unfold ControlLink.isSet ControlLink.clearLatch
  simp only [BitVec.getLsbD_and, BitVec.getLsbD_not, BitVec.getLsbD_twoPow]
  by_cases h : n = m
  · subst h; simp [hn]
  · have h' : m.index ≠ n.index := fun e => h (Notice.index_inj e).symm
    simp [h, h', hn]

/-- The preparatory step's test is that of R138. -/
theorem State.passStale_iff (s : State) (o : OutputId) : s.passStale o = true ↔ s.PassDiffers o := by
  unfold State.passStale State.PassDiffers
  rcases s.pc.passes[o] with - | (⟨service, eventId⟩ | ⟨service, left⟩)
  · simp
  · cases s.currentOf o <;> simp
  · simp

/-- What the evaluation of outputs may touch (R148, R156, R162): decision records, pins, latches of
OUTPUT_STATE, and EVENT passes of ACTIVE outputs whose current programme differs, which end. -/
structure State.Evaluates (s t : State) : Prop where
  rest : t = { s with ae := t.ae, pins := t.pins, cl := { s.cl with latches := t.cl.latches },
                      pc := { s.pc with passes := t.pc.passes } }
  passes : ∀ o : OutputId, t.pc.passes[o] = s.pc.passes[o] ∨
    (t.pc.passes[o] = none ∧ s.ou[o].mode = .active ∧ s.PassDiffers o)
  kept : ∀ n, s.cl.isSet n = true → t.cl.isSet n = true
  others : ∀ n : Notice, n.kind ≠ 0x02 → t.cl.isSet n = s.cl.isSet n
  wave : ∃ w, t.pins.wave = s.pins.wave ++ w

theorem State.Evaluates.refl (s : State) : s.Evaluates s :=
  ⟨rfl, fun _ => .inl rfl, fun _ h => h, fun _ _ => rfl, [], by simp⟩

/-- Whether a pass differs is read from the pass, the output's channel, the guide and the time. -/
theorem State.PassDiffers.congr {s t : State} {o : OutputId} (h : t.PassDiffers o)
    (pass : t.pc.passes[o] = s.pc.passes[o]) (cur : t.currentOf o = s.currentOf o) : s.PassDiffers o := by
  unfold State.PassDiffers at h ⊢
  rw [pass, cur] at h
  exact h

/-- Evaluations leave the outputs, and what is on air. -/
theorem State.Evaluates.outputs {s t : State} (h : s.Evaluates t) (o : OutputId) :
    t.ou = s.ou ∧ t.currentOf o = s.currentOf o := by
  rw [h.rest]
  exact ⟨rfl, rfl⟩

theorem State.Evaluates.trans {s t u : State} (h : s.Evaluates t) (k : t.Evaluates u) :
    s.Evaluates u := by
  obtain ⟨a, ha⟩ := h.wave
  obtain ⟨b, hb⟩ := k.wave
  refine ⟨?_, ?_, fun n hn => k.kept n (h.kept n hn),
    fun n hn => (k.others n hn).trans (h.others n hn), a ++ b, by rw [hb, ha, List.append_assoc]⟩
  · have e := k.rest
    rw [h.rest] at e
    exact e
  · intro o
    obtain ⟨ou, cur⟩ := h.outputs o
    rcases k.passes o with e | ⟨e, active, differs⟩
    · rw [e]; exact h.passes o
    · rcases h.passes o with e' | ⟨-, active', differs'⟩
      · exact .inr ⟨e, by rw [← ou]; exact active, differs.congr e' cur⟩
      · exact .inr ⟨e, active', differs'⟩

theorem State.PinsOnly.evaluates {s t : State} (h : s.PinsOnly t) : s.Evaluates t := by
  have e := h.rest
  refine ⟨?_, ?_, ?_, ?_, h.wave⟩ <;> rw [e]
  · intro o; exact .inl rfl
  · exact fun n hn => hn
  · exact fun n _ => rfl

theorem State.endStalePass_evaluates (o : OutputId) (s : State) : s.Evaluates (s.endStalePass o) := by
  unfold State.endStalePass
  split
  · rename_i ends
    simp only [Bool.and_eq_true, State.isActive, beq_iff_eq] at ends
    refine ⟨rfl, ?_, fun n h => h, fun n _ => rfl, [], by simp⟩
    intro p
    by_cases e : o = p
    · subst e
      exact .inr ⟨by simp, ends.1, (s.passStale_iff o).mp ends.2⟩
    · left
      have e' : o.val ≠ p.val := fun h => e (Fin.ext h)
      simp [e']
  · exact .refl s

theorem State.recordDecision_evaluates (o : OutputId) (r : DecisionRecord) (s : State) :
    s.Evaluates (s.recordDecision o r) := by
  have h0 : s.Evaluates { s with ae := s.ae.set o r } :=
    ⟨rfl, fun _ => .inl rfl, fun _ h => h, fun _ _ => rfl, [], by simp⟩
  have h1 := h0.trans (State.PinsOnly.evaluates
    (State.driveGates_pinsOnly o r.picture r.descramble { s with ae := s.ae.set o r }))
  unfold State.recordDecision
  simp only
  split
  · refine h1.trans ⟨rfl, fun _ => .inl rfl, ?_, ?_, [], by simp⟩
    · intro n hn; simp [ControlLink.isSet_setLatch, hn]
    · intro n hn
      have : n ≠ .outputState o := by rintro rfl; exact hn rfl
      simp [ControlLink.isSet_setLatch, this]
  · exact h1

/-- All that an evaluation touches (R148). -/
theorem State.evaluate_evaluates (o : OutputId) (s : State) : s.Evaluates (s.evaluate o) :=
  (s.endStalePass_evaluates o).trans ((s.endStalePass o).recordDecision_evaluates o _)

theorem State.evaluateAll_evaluates (os : List OutputId) (s : State) :
    s.Evaluates (s.evaluateAll os) := by
  unfold State.evaluateAll
  suffices h : ∀ (l : List OutputId) (a : State), s.Evaluates a → s.Evaluates
      (l.foldl (fun acc o => if os.contains o then acc.evaluate o else acc) a) from
    h allOutputs s (.refl s)
  intro l
  induction l with
  | nil => intro a ha; exact ha
  | cons o l ih =>
    intro a ha
    refine ih _ ?_
    beta_reduce
    split
    · exact ha.trans (a.evaluate_evaluates o)
    · exact ha

/-- All that the close of an event touches (R158, R208). -/
theorem State.report_closes (os : List OutputId) (s : State) : s.Closes (s.report os) := by
  have h := s.evaluateAll_evaluates os
  have e := (s.evaluateAll os).startWrite_rest
  unfold State.report
  refine ⟨?_, ?_, ?_, ?_, ?_⟩
  · rw [e, h.rest]
  · intro o; rw [e]; exact h.passes o
  · intro n _ hn; rw [e]; exact h.kept n hn
  · intro n _ hn; rw [e]; exact h.others n hn
  · rw [e]; exact h.wave

/-- With a write in progress, or nothing dirty, the close leaves the store (R208). -/
theorem State.report_storeRests (os : List OutputId) (s : State) : s.StoreRests (s.report os) := by
  have h : (s.evaluateAll os).ss = s.ss := by rw [(s.evaluateAll_evaluates os).rest]
  intro c
  unfold State.report
  rcases (s.evaluateAll os).startWrite_cases with ⟨e, -⟩ | ⟨r, rest, hn, hd, -⟩
  · rw [e, h]
  · rw [h] at hn hd
    rcases c with c | c
    · exact absurd hn c
    · rw [c] at hd; exact absurd hd (by simp)

/-- The same of an event that may have changed routes (R57). -/
theorem State.finish_closes (old : State) (named : List OutputId) (s : State) :
    s.Closes (State.finish old named s) := by
  have p := State.loadRoutes_pinsOnly old s
  have c := (State.loadRoutes old s).report_closes (State.touched old s ++ named)
  have e := p.rest
  obtain ⟨a, ha⟩ := p.wave
  obtain ⟨b, hb⟩ := c.2.2.2.2
  unfold State.finish
  refine ⟨?_, ?_, ?_, ?_, a ++ b, ?_⟩
  · have r := c.1
    rw [e] at r ⊢
    exact r
  · intro o; have r := c.2.1 o; rw [e] at r ⊢; exact r
  · intro n hn hs; have r := c.2.2.1 n hn; rw [e] at r ⊢; exact r hs
  · intro n hn hk; have r := c.2.2.2.1 n hn hk; rw [e] at r ⊢; exact r
  · rw [hb, ha, List.append_assoc]

end Sys2Proof.Machine
end

