-- ==== Sys2Proof/Laws/Decisions.lean ====
section
/-! SUPPORT. An evaluation leaves an output's record as the decision for the state it leaves, and the gates
as the record says; an output that is not evaluated keeps its record. -/

namespace Sys2Proof.Machine

/-- A decision reads no decision record, no pin, no latch, no store, and no pass but the output's own. -/
theorem State.decisionRecord_congr {s t : State} {o : OutputId} (tb : t.tb = s.tb) (cm : t.cm = s.cm)
    (tp : t.tp = s.tp) (ou : t.ou = s.ou) (pg : t.pg = s.pg) (ep : t.ep = s.ep)
    (pc : t.pc = { s.pc with passes := t.pc.passes }) (h : t.pc.passes[o] = s.pc.passes[o]) :
    t.decisionRecord o = s.decisionRecord o := by
  obtain ⟨sp, scl, shf, stb, scm, stp, sou, spg, sep, spc, sae, sss, spins, spend⟩ := s
  obtain ⟨tp', tcl, thf, ttb, tcm, ttp, tou, tpg, tep, tpc, tae, tss, tpins, tpend⟩ := t
  obtain ⟨p1, p2, p3, p4, p5⟩ := spc
  obtain ⟨q1, q2, q3, q4, q5⟩ := tpc
  simp only [Parental.mk.injEq] at tb cm tp ou pg ep pc h
  obtain ⟨rfl, rfl, rfl, rfl, -⟩ := pc
  subst tb cm tp ou pg ep
  unfold State.decisionRecord State.decideOutput State.decideAttached State.parentalTest
  simp only [h]
  rfl

/-- The same across evaluations that keep the output's pass. -/
theorem State.Evaluates.decisionRecord {s t : State} (h : s.Evaluates t) {o : OutputId}
    (k : t.pc.passes[o] = s.pc.passes[o]) : t.decisionRecord o = s.decisionRecord o := by
  have e := h.rest
  apply State.decisionRecord_congr <;> first
    | exact k
    | (rw [e])

theorem State.drivePicture_ae (o : OutputId) (b : Bool) (s : State) :
    (s.drivePicture o b).ae = s.ae := by rw [(s.drivePicture_pinsOnly o b).rest]

/-- Recording a decision stores it and drives the output's gates as it says (R155, R156). -/
theorem State.recordDecision_record (o : OutputId) (r : DecisionRecord) (s : State) :
    (s.recordDecision o r).ae = s.ae.set o r ∧
      (s.recordDecision o r).pins.picture = s.pins.picture.set o r.picture ∧
      (s.recordDecision o r).pins.descramble = s.pins.descramble.set o r.descramble ∧
      (s.recordDecision o r).pc = s.pc := by
  have g := State.driveGates_gates o r.picture r.descramble { s with ae := s.ae.set o r }
  have p := (State.driveGates_pinsOnly o r.picture r.descramble { s with ae := s.ae.set o r }).rest
  unfold State.recordDecision
  simp only
  split
  · refine ⟨?_, g.1, g.2, ?_⟩
    · rw [State.latch_ae, p]
    · rw [State.latch_pc, p]
  · refine ⟨?_, g.1, g.2, ?_⟩ <;> rw [p]

/-- An evaluation of `o` leaves its record as the decision for the state, its gates as the record says, and
every other output's record, gates and pass as they were (R148, R155, R156). -/
theorem State.evaluate_decides (o : OutputId) (s : State) :
    (s.evaluate o).ae[o] = (s.evaluate o).decisionRecord o ∧
      (s.evaluate o).pins.picture[o] = (s.evaluate o).ae[o].picture ∧
      (s.evaluate o).pins.descramble[o] = (s.evaluate o).ae[o].descramble ∧
      ∀ p : OutputId, p ≠ o → (s.evaluate o).ae[p] = s.ae[p] ∧
        (s.evaluate o).pins.picture[p] = s.pins.picture[p] ∧
        (s.evaluate o).pins.descramble[p] = s.pins.descramble[p] ∧
        (s.evaluate o).pc.passes[p] = s.pc.passes[p] := by
  have r := (s.endStalePass o).recordDecision_record o ((s.endStalePass o).decisionRecord o)
  have e := (s.endStalePass o).recordDecision_evaluates o ((s.endStalePass o).decisionRecord o)
  have d := e.decisionRecord (o := o) (by rw [r.2.2.2])
  have x : (s.endStalePass o).ae = s.ae ∧ (s.endStalePass o).pins = s.pins ∧
      ∀ p : OutputId, p ≠ o → (s.endStalePass o).pc.passes[p] = s.pc.passes[p] := by
    unfold State.endStalePass
    split
    · refine ⟨rfl, rfl, fun p hp => ?_⟩
      have hp' : o.val ≠ p.val := fun h => hp (Fin.ext h.symm)
      simp [hp']
    · exact ⟨rfl, rfl, fun _ _ => rfl⟩
  refine ⟨?_, ?_, ?_, ?_⟩
  · unfold State.evaluate
    simp only
    rw [d, r.1]
    simp
  · unfold State.evaluate
    simp only
    rw [r.2.1, r.1]
    simp
  · unfold State.evaluate
    simp only
    rw [r.2.2.1, r.1]
    simp
  · intro p hp
    have hp' : o.val ≠ p.val := fun h => hp (Fin.ext h.symm)
    unfold State.evaluate
    simp only
    rw [r.1, r.2.1, r.2.2.1, r.2.2.2, x.1, x.2.1]
    refine ⟨?_, ?_, ?_, x.2.2 p hp⟩ <;> simp [hp']

/-- An output's record is the decision for the state, and the pins stand as it says. -/
abbrev State.Decided (s : State) (o : OutputId) : Prop :=
  s.ae[o] = s.decisionRecord o ∧ s.pins.picture[o] = s.ae[o].picture ∧
    s.pins.descramble[o] = s.ae[o].descramble

/-- The evaluation of another output leaves a decided output decided. -/
theorem State.Decided.evaluate {s : State} {o p : OutputId} (h : s.Decided o) (hp : o ≠ p) :
    (s.evaluate p).Decided o := by
  obtain ⟨a, b, c, d⟩ := (s.evaluate_decides p).2.2.2 o hp
  have e := (s.evaluate_evaluates p).decisionRecord d
  exact ⟨by rw [a, e]; exact h.1, by rw [b, a]; exact h.2.1, by rw [c, a]; exact h.2.2⟩

/-- After the evaluations of an event, each output evaluated is decided, and so is each that was decided
for the state before them (R148, R158). -/
theorem State.evaluateAll_decides (os : List OutputId) (s : State) (o : OutputId)
    (h : o ∈ os ∨ s.Decided o) : (s.evaluateAll os).Decided o := by
  suffices k : ∀ (l : List OutputId) (a : State), (o ∈ os ∧ o ∈ l) ∨ a.Decided o →
      (l.foldl (fun acc p => if os.contains p then acc.evaluate p else acc) a).Decided o by
    refine k allOutputs s ?_
    rcases h with h | h
    · refine .inl ⟨h, ?_⟩
      fin_cases o <;> simp [allOutputs]
    · exact .inr h
  intro l
  induction l with
  | nil =>
    rintro a (⟨-, h⟩ | h)
    · exact absurd h (by simp)
    · exact h
  | cons p l ih =>
    intro a ha
    refine ih _ ?_
    beta_reduce
    rcases ha with ⟨h1, h2⟩ | ha
    · rcases List.mem_cons.mp h2 with rfl | h2
      · refine .inr ?_
        rw [if_pos (by simpa using h1)]
        obtain ⟨x, y, z, -⟩ := a.evaluate_decides o
        exact ⟨x, y, z⟩
      · exact .inl ⟨h1, h2⟩
    · refine .inr ?_
      split
      · by_cases hp : o = p
        · subst hp
          obtain ⟨x, y, z, -⟩ := a.evaluate_decides o
          exact ⟨x, y, z⟩
        · exact ha.evaluate hp
      · exact ha

/-- The same after the close of an event. -/
theorem State.report_decides (os : List OutputId) (s : State) (o : OutputId)
    (h : o ∈ os ∨ s.Decided o) : (s.report os).Decided o := by
  have k := s.evaluateAll_decides os o h
  have e := (s.evaluateAll os).startWrite_rest
  have d : (s.report os).decisionRecord o = (s.evaluateAll os).decisionRecord o := by
    apply State.decisionRecord_congr <;> (unfold State.report; rw [e])
  unfold State.Decided
  rw [d]
  unfold State.report
  rw [e]
  exact k

/-! ### Evaluated outputs (R148) -/

/-- The preparatory step leaves an ACTIVE output no pass of another programme (R138, R148). -/
theorem State.endStalePass_ends (o : OutputId) (s : State) (active : s.ou[o].mode = .active) :
    ¬(s.endStalePass o).PassDiffers o := by
  rintro ⟨service, eventId, held, differs⟩
  unfold State.endStalePass at held differs
  by_cases stale : s.passStale o = true
  · have ends : (s.isActive o && s.passStale o) = true := by
      rw [stale, Bool.and_true]; exact beq_iff_eq.mpr active
    rw [if_pos ends] at held
    simp at held
  · rw [if_neg (by simp [stale])] at held differs
    exact stale ((s.passStale_iff o).mpr ⟨service, eventId, held, differs⟩)

/-- An evaluated output is evaluated, and stays so under the evaluation of another. -/
theorem State.evaluate_evaluated (o : OutputId) (s : State) : (s.evaluate o).Evaluated o := by
  have e := (s.endStalePass o).recordDecision_evaluates o ((s.endStalePass o).decisionRecord o)
  have r := ((s.endStalePass o).recordDecision_record o ((s.endStalePass o).decisionRecord o)).2.2.2
  refine ⟨(s.evaluate_decides o).1, fun active differs => ?_⟩
  rw [((s.evaluate_evaluates o).outputs o).1] at active
  refine s.endStalePass_ends o active (differs.congr ?_ (e.outputs o).2)
  exact congrArg (fun q : Parental => q.passes[o]) r

theorem State.Evaluated.evaluate {s : State} {o p : OutputId} (h : s.Evaluated o) (hp : o ≠ p) :
    (s.evaluate p).Evaluated o := by
  obtain ⟨record, -, -, pass⟩ := (s.evaluate_decides p).2.2.2 o hp
  have e := s.evaluate_evaluates p
  refine ⟨by rw [record, e.decisionRecord pass]; exact h.1, fun active differs => ?_⟩
  rw [(e.outputs o).1] at active
  exact h.2 active (differs.congr pass (e.outputs o).2)

/-- After the evaluations of an event each output named is evaluated (R148, R158). -/
theorem State.evaluateAll_evaluated (os : List OutputId) (s : State) (o : OutputId) (h : o ∈ os) :
    (s.evaluateAll os).Evaluated o := by
  suffices k : ∀ (l : List OutputId) (a : State), o ∈ l ∨ a.Evaluated o →
      (l.foldl (fun acc p => if os.contains p then acc.evaluate p else acc) a).Evaluated o from
    k allOutputs s (.inl (by fin_cases o <;> simp [allOutputs]))
  intro l
  induction l with
  | nil =>
    rintro a (m | m)
    · exact absurd m (by simp)
    · exact m
  | cons p l ih =>
    rintro a m
    refine ih _ ?_
    beta_reduce
    by_cases hp : o = p
    · subst hp
      rw [if_pos (by simpa using h)]
      exact .inr (a.evaluate_evaluated o)
    · rcases m with m | m
      · exact .inl (by simpa [hp] using m)
      · refine .inr ?_
        split
        · exact m.evaluate hp
        · exact m

/-- The same after the close of an event. -/
theorem State.report_evaluated (os : List OutputId) (s : State) (o : OutputId) (h : o ∈ os) :
    (s.report os).Evaluated o := by
  obtain ⟨record, pass⟩ := s.evaluateAll_evaluated os o h
  have e := (s.evaluateAll os).startWrite_rest
  have d : (s.report os).decisionRecord o = (s.evaluateAll os).decisionRecord o := by
    apply State.decisionRecord_congr <;> (unfold State.report; rw [e])
  refine ⟨?_, ?_⟩
  · rw [d]; unfold State.report; rw [e]; exact record
  · unfold State.report; rw [e]; exact pass

end Sys2Proof.Machine
end

