-- ==== Sys2Proof/Laws/Replies.lean ====
section
/-! SUPPORT. The reply bodies are the fields of their owners' rules, byte for byte; and what a record written or
read back holds. -/

namespace Sys2Proof.Machine

/-- A written record reads back (R204, R210). -/
@[simp] theorem readRecord_written {α : Type} (c : α) : readRecord (some (Stored.written c)) = some c := by
  simp [readRecord, Stored.written]

@[simp] theorem readRecord_none {α : Type} : readRecord (none : Option (Stored α)) = none := rfl

/-- A record whose check value does not match is blank (R204). -/
theorem readRecord_mismatch {α : Type} {x : Stored α} (h : x.check ≠ Config.checkValue x.content) :
    readRecord (some x) = none := by
  simp [readRecord, h]

/-- What an owner takes from a record is what the record reads as, or its default (R204, R205). -/
theorem readRecord_takes {α : Type} (record : Option (Stored α)) (default : α) :
    TakesRecord record default ((readRecord record).getD default) := by
  constructor
  · rintro x rfl h
    simp [readRecord, h]
  · intro h
    cases record with
    | none => rfl
    | some x => simp [readRecord, h x rfl]

theorem opt_passBody (p : Option Pass) : opt passBody p = passFields p := by
  rcases p with - | (_ | _) <;> rfl

theorem opt_routeBody (r : Option Route) : opt routeBody r = routeFields r := by
  cases r <;> rfl

/-- A decision record's body is its fields (R146). -/
theorem decisionBody_eq (r : DecisionRecord) : decisionBody r = recordFields r := by
  obtain ⟨d, e, p, c, route, a, b⟩ := r
  unfold decisionBody recordFields
  rw [opt_passBody, opt_routeBody]
  rcases d with _ | _ | _ | _ | _ | _ | (_ | _ | _ | _ | _) | _ | (_ | _ | _) | _ | _ <;>
    cases a <;> cases b <;> simp [Decision.code, Decision.reasonCode, Decision.tier?, Decision.minutes?,
      decisionFields, opt, u8, toByte, flag]

/-- A label's bytes, item by item, are the label. -/
theorem flatten_singletons {α : Type} (l : List α) : (l.map fun c => [c]).flatten = l := by
  induction l with
  | nil => rfl
  | cons _ _ ih => simp [ih]

/-- A map entry's body is its fields (R1, R14). -/
theorem entryBody_eq (e : MapEntry) : entryBody e = entryFields e := by
  obtain ⟨ch, ca, sl, sc, a, l⟩ := e
  cases a <;> cases sc <;>
    simp [entryBody, entryFields, AccessClass.code, AccessClass.tier?, opt, flag, listField, u8, toByte,
      flatten_singletons]

/-- A purchase's body is its fields (R115). -/
theorem purchaseBody_eq (p : Purchase) : purchaseBody p = purchaseFields p := by
  obtain ⟨_, _, _, _, _, _, _, st, _⟩ := p
  cases st <;> rfl

/-- A set of outputs as one value: each member's bit (R192). -/
theorem setValue_outputs (P : OutputId → Bool) :
    setValue ((allOutputs.filter P).map (·.val)) =
      (if P 0 then 2 ^ 0 else 0) + (if P 1 then 2 ^ 1 else 0) + (if P 2 then 2 ^ 2 else 0) +
        if P 3 then 2 ^ 3 else 0 := by
  cases h0 : P 0 <;> cases h1 : P 1 <;> cases h2 : P 2 <;> cases h3 : P 3 <;>
    simp [allOutputs, setValue, h0, h1, h2, h3]

/-- An IF count as an optional field (R22, R192). -/
theorem opt_ifCountBody (c : Option IfCount) :
    opt ifCountBody c = match c with
      | none => [0]
      | some .overflow => [1, 0xFF, 0xFF, 0xFF]
      | some (.count n) => 1 :: u24 n := by
  rcases c with - | (_ | _) <;> rfl

/-- A tuner's failure reason as an optional field (R17, R192). -/
theorem opt_failReason (r : Option FailReason) :
    opt (fun r => u8 r.code) r = match r with
      | none => [0]
      | some .noLock => [1, 0]
      | some .noCarrier => [1, 1]
      | some .offFrequency => [1, 2] := by
  rcases r with - | (_ | _ | _) <;> rfl

/-- The divisor in force, and its M and S, as optional fields (R21, R41). -/
theorem opt_divisor (x : Tuner) :
    opt u16 x.divisor ++ opt (fun n => u16 (divisorM n) ++ u16 (divisorS n)) x.divisor = match x.n0 with
      | none => [0, 0]
      | some n0 =>
        let d := ((n0 : Int) + x.offset).toNat
        1 :: u16 d ++ 1 :: (u16 (d / 32) ++ u16 (d % 32)) := by
  unfold Tuner.divisor
  cases x.n0 <;> rfl

/-- The residue of a carrier as an optional field (R20, R41). -/
theorem opt_residue (c : Option Nat) (f : Nat) :
    opt (fun c => i8 (residue c f)) c = match c with
      | none => [0]
      | some c => [1, BitVec.ofInt 8 (125 * ((16 * (c + f) + 500) / 1000 : Nat) - 2 * (c + f : Nat))] := by
  cases c
  · rfl
  · simp only [opt, i8, residue, nominalDivisor]
    push_cast
    rw [Int.mul_comm]

/-- QUERY TUNER's body is the fields of R41. -/
theorem tunerBody_eq (s : State) (n : TunerId) : tunerBody s n = s.tunerFields n := by
  have serves (o : OutputId) (k : Nat) :
      (if s.ou[o].attachment.tuner? == some n then k else 0) =
        match s.ou[o].attachment with
        | .tuner u _ => if u = n then k else 0
        | _ => 0 := by
    cases s.ou[o].attachment <;> simp [Attachment.tuner?]
  unfold tunerBody State.tunerFields State.attachedTo
  simp only [setValue_outputs, serves, opt_residue, opt_ifCountBody, opt_failReason]
  rw [List.append_assoc _ (opt u16 _) (opt _ _), opt_divisor]
  cases s.tp.tuners[n].state <;> rfl

/-- QUERY PROFILE's body is the fields of R135. -/
theorem profileBody_eq (s : State) (p : ProfileId) : profileBody s p = s.profileFields p := by
  unfold profileBody State.profileFields
  simp only [setValue_outputs, beq_iff_eq]
  obtain ⟨c, u, b, pp, w, l⟩ := s.pc.profiles[p]
  rcases w with _ | _ <;> rfl

/-- A clock's body is its fields (R66). -/
theorem clockBody_eq (c : Option WallClock) : clockBody c = clockFields c := by
  cases c <;> rfl

/-- The PIN's three values (R143). -/
theorem pinBody_eq (s : State) : pinBody s = pinFields s.pc.record := by
  unfold pinBody pinFields State.pinState PinRecord.state
  by_cases locked : 0 < s.pc.record.lockout
  · simp [locked, PinState.code, u8, toByte]
  · cases set : s.pc.record.pin <;> simp [locked, PinState.code, u8, toByte]

/-- Mode and polarities (R182). -/
theorem setupBody_eq (f : FeedSetup) : setupBody f = portFields f := by
  obtain ⟨m, a, b, g⟩ := f
  cases m <;> cases a <;> cases b <;> rfl

/-- Credit limit and credit used (R99). -/
theorem creditBody_eq (s : State) : creditBody s = s.creditFields := by
  unfold creditBody State.creditFields Purchasing.creditUsed
  congr 6
  funext p
  cases h : p.state <;> simp [Purchase.counts, h]

/-- A notice's snapshot is the fields of R200's table. -/
theorem snapshot_eq (s : State) (n : Notice) : snapshot s n = s.noticeFields n := by
  cases n <;> simp only [snapshot, State.noticeFields, pinBody_eq, decisionBody_eq, tunerBody_eq, creditBody_eq,
    clockBody_eq, setupBody_eq]
  case ready =>
    unfold State.revision
    cases s.cl.cause <;> cases readRecord s.ss.records.identity <;> cases s.tb.clock <;>
      simp [flag, u8, toByte, ResetCause.code]
  case logNearFull => rfl
  case entitlement =>
    cases h : s.ep.ent.unitState <;>
      simp [u8, toByte, UnitState.code, allTiers] <;> rfl
  case guideFull => rfl
  case feedFault =>
    cases h : s.hf.lastFault with
    | none => simp [opt, flag, HeadendFeed.byteCount]
    | some f => cases f <;> simp [opt, flag, HeadendFeed.byteCount, u8, toByte, FeedFault.code]
  case feedSilent => simp [flag]

end Sys2Proof.Machine
end

