-- ==== Sys2Proof/Laws/Serving.lean ====
section
/-! SUPPORT. What serving a request and taking a packet come to where one waits, and that nothing happens
where none does. -/

namespace Sys2Proof.Machine

theorem State.Serves.ready {s : State} {r : Request} {rest : List Request} (h : s.Serves r rest) :
    s.handlerReady = true := by
  simp [State.handlerReady, h.1, h.2.1, h.2.2.1]

/-- The handler takes the oldest request, and its reply joins the list at the same event (R190, R191). -/
theorem State.serveIf_of {s : State} {r : Request} {rest : List Request} (h : s.Serves r rest)
    {isKind : Byte → Bool} (hk : isKind r.kind = true) (f : List Byte → State → Served) :
    s.serveIf isKind f =
      (f r.body { s with cl := { s.cl with queue := rest } }).state.pushReply
        ⟨r.kind ||| 0x80, r.tag, (f r.body { s with cl := { s.cl with queue := rest } }).status,
          (f r.body { s with cl := { s.cl with queue := rest } }).body⟩ := by
  simp [State.serveIf, h.ready, h.2.2.2, hk, replyKind]

/-- A request whose serving only answers leaves all else as it stands. -/
theorem State.serveIf_answers {s : State} {r : Request} {rest : List Request} (h : s.Serves r rest)
    {isKind : Byte → Bool} (hk : isKind r.kind = true) {f : List Byte → State → Served} {st : Status}
    {body : List Byte}
    (hf : f r.body { s with cl := { s.cl with queue := rest } } =
      ⟨{ s with cl := { s.cl with queue := rest } }, st, body⟩) :
    s.serveIf isKind f = s.answered r rest st body := by
  rw [State.serveIf_of h hk, hf]
  rfl

/-- The same of a kind whose body is read. -/
theorem State.serve_answers {α : Type} {s : State} {r : Request} {rest : List Request}
    (h : s.Serves r rest) {kind : Byte} (hk : r.kind = kind) {read : List Byte → Option α}
    {f : α → State → Served} {a : α} (hr : read r.body = some a) {st : Status} {body : List Byte}
    (hf : f a { s with cl := { s.cl with queue := rest } } =
      ⟨{ s with cl := { s.cl with queue := rest } }, st, body⟩) :
    s.serve kind read f = s.answered r rest st body :=
  State.serveIf_answers h (by simp [hk]) (by simp [hr, hf])

/-- A body that does not fit its kind (R190 step 2). -/
theorem State.serve_badLength {α : Type} {s : State} {r : Request} {rest : List Request}
    (h : s.Serves r rest) {kind : Byte} (hk : r.kind = kind) {read : List Byte → Option α}
    (f : α → State → Served) (hr : read r.body = none) :
    s.serve kind read f = s.answered r rest .badLength [] :=
  State.serveIf_answers h (by simp [hk]) (by simp [hr, answer])

/-- A request that is taken with an effect (R190 step 3). -/
theorem State.serve_of {α : Type} {s : State} {r : Request} {rest : List Request}
    (h : s.Serves r rest) {kind : Byte} (hk : r.kind = kind) {read : List Byte → Option α}
    {f : α → State → Served} {a : α} (hr : read r.body = some a) :
    s.serve kind read f =
      (f a { s with cl := { s.cl with queue := rest } }).state.pushReply
        ⟨r.kind ||| 0x80, r.tag, (f a { s with cl := { s.cl with queue := rest } }).status,
          (f a { s with cl := { s.cl with queue := rest } }).body⟩ := by
  unfold State.serve
  rw [State.serveIf_of h (by simp [hk])]
  simp [hr]

/-- The owner takes the packet that waits for it, and the packet is gone (R175, R180). -/
theorem State.takePacket_of {s : State} {kind : Byte} {body : List Byte} (h : s.Hands kind body)
    (f : List Byte → State → State) : s.takePacket kind f = f body s.packetGone := by
  obtain ⟨h1, h2, h3, h4⟩ := h
  simp [State.takePacket, State.hands, h1, h2, h3, h4, State.packetGone, HeadendFeed.dropPacket]

/-- With no packet of the kind waiting, nothing happens (log 1). -/
theorem State.takePacket_none {s : State} {kind : Byte} (h : s.hands kind = false)
    (f : List Byte → State → State) : s.takePacket kind f = s := by
  simp [State.takePacket, h]

/-- While the part is not serving, no request is taken (R190, R202). -/
theorem State.serveIf_notReady {s : State} (h : s.handlerReady = false) (isKind : Byte → Bool)
    (f : List Byte → State → Served) : s.serveIf isKind f = s := by
  simp [State.serveIf, h]

end Sys2Proof.Machine
end

