-- ==== Sys2Proof/Machine/Lines.lean ====
section
/-! DEFINITION. What the events at the pins put on their lines, bit by bit (R21, R56, R186, R199). Nothing
in a command's effect reads it: it says how the words, bytes and flags of the model stand on the wires. -/

namespace Sys2Proof.Machine

/-- A word's bits, most significant first, as SYDTn and RTn[1] carry them (R21, R56). -/
def msbFirst {n : Nat} (w : BitVec n) : List Bool := (List.range n).map fun i => w.getLsbD (n - 1 - i)

/-- The levels of one character: a start bit, 8 data bits least significant first, a stop bit (R186). -/
def characterLevels (b : Byte) : List Bool := false :: (List.range 8).map b.getLsbD ++ [true]

/-- What a receiver makes of the ten levels that begin with a start bit; a low stop bit is a framing error,
and a break reads as one for each character time it lasts (R186). -/
def readLevels : List Bool → Option Character
  | false :: d0 :: d1 :: d2 :: d3 :: d4 :: d5 :: d6 :: d7 :: stop :: _ =>
    if stop then some (.byte (BitVec.ofBoolListLE [d0, d1, d2, d3, d4, d5, d6, d7])) else some .framingError
  | _ => none

/-- The bits an event puts on its data line, oldest first: SYDTn for a divisor, RTn[1] for a route, LTXD for
a reply; a gate has its level alone. A reply cut off leaves LTXD at the high level (R196). -/
def PinEvent.levels : PinEvent → List Bool
  | .picture _ b | .descramble _ b => [b]
  | .route _ w => msbFirst w
  | .divisor _ w => msbFirst w
  | .reply frame => (frame.map characterLevels).flatten
  | .replyCut frame n => (frame.map characterLevels).flatten.take n ++ [true]

/-- The level of LTXD between characters and while it rests; none while a reply's characters pass, which
`PinEvent.levels` gives (R186, R196). -/
def State.ltxdLevel (s : State) : Option Bool := if s.ltxdRests then some true else none

/-- The level of ATTN, which is active low (R199). -/
def State.attnHigh (s : State) : Bool := !s.attn

end Sys2Proof.Machine
end

