-- ==== Sys2Proof/WellFormed.lean ====
section
/-! DEFINITION. Which commands are well formed. The operand types are exact: a character time on LRXD,
a byte on FD0 to FD7, one of three tuners, a count of IF cycles. No term of `Instr` is outside what the
part can meet, so there is nothing to refuse; the fields of requests and packets are checked where they
are read (R4, R73, R190). -/

namespace Sys2Proof

/-- Every command is well formed. -/
def Instr.wellFormed (_ : Instr) : Bool := true

end Sys2Proof
end

