-- ==== Sys2Proof/Tests/Slice0.lean ====
section
/-! SUPPORT. Tests: the spec's worked examples, and for each obligation with hypotheses a state and operands
that meet them. -/

open Sys2Proof Sys2Proof.Machine

namespace Sys2Proof.Tests

-- One theorem at a time: each kernel evaluation waits for the ones before it, and would hold a thread.
set_option Elab.async false

/-! ### States to test on -/

/-- A serving part that holds nothing. -/
def live : State := { State.reset with phase := .running }

/-- One request waits. -/
def ask (kind : Byte) (body : List Byte) (s : State) : State :=
  { s with cl := { s.cl with queue := [⟨kind, 7, body⟩] } }

/-- A packet waits for its owner. -/
def hand (kind : Byte) (body : List Byte) (s : State) : State :=
  { s with hf := { s.hf with
      buffer := ([0x9C, kind, 0, 0, 0, 0, 0, BitVec.ofNat 8 body.length] ++ body ++ [0, 0]).map .byte
      assembler := .handing } }

/-- What a command leaves. -/
def after (c : Instr) (s : State) : State :=
  match exec c s with
  | .next t => t
  | .fault _ => s
  | .refused _ => s

/-- An entry of the test map. -/
def entry (channel carrier : Nat) (slot : ServiceSlot) (scrambled : Bool) (access : AccessClass) : MapEntry :=
  { channel := channel, carrier := carrier, slot := slot, scrambled := scrambled, access := access, label := [] }

/-- Version 9 of section 3.4: channels 2, 5, 14, 40 and 41. -/
def version9 : Lineup :=
  { entries := [entry 2 55250 0 false .free, entry 5 211250 1 false (.tier 3), entry 14 83250 0 false .free,
      entry 40 211250 2 true .pay, entry 41 211250 2 false .free]
    version := some 9 }

/-- Programme 320 of section 6.8, 20:45 to 21:45 on channel 40, on day 1. -/
def programme320 : GuideEvent :=
  { service := 40, eventId := 320, start := 1440 + 1245, duration := 60, rating := 3, flags := 0, price := 40,
    preview := 3, title := [0x41] }

/-- T0 locked on 211,250 kHz. -/
def lockedTuner : Tuner :=
  { state := .locked, carrier := some 211250, n0 := some 4112, offset := 0, corrections := 0,
    lastCount := some (.count 183420), reason := none }

/-- Every decision record and gate as the state has it. -/
def settle (s : State) : State :=
  { s with
    ae := Vector.ofFn fun o => s.decisionRecord o
    pins := { picture := Vector.ofFn fun o => (s.decisionRecord o).picture
              descramble := Vector.ofFn fun o => (s.decisionRecord o).descramble, wave := [] } }

/-- 20:50 of day 1: O0 on channel 40 through T0, the other rooms awake without a channel, limit 100. -/
def evening : State :=
  settle { live with
    tb := { localSeconds := 0, clock := some { day := 1, second := 75000 } }
    cm := { committed := version9, staging := none }
    tp := { tuners := #v[lockedTuner, .idle, .idle], ifKHz := 45750 }
    ou := #v[⟨.active, some 40, .tuner 0 2⟩, ⟨.active, none, .none⟩, ⟨.active, none, .none⟩,
      ⟨.active, none, .none⟩]
    pg := { events := [programme320] }
    ep := { live.ep with ent := { Entitlements.initial with limit := 100 } } }

/-- The same with PIN 1234, and P0's ceiling below programme 320. -/
def guarded : State :=
  settle { evening with
    pc := { evening.pc with
      profiles := evening.pc.profiles.set 0 { Profile.initial with ceiling := 2, purchasePin := true }
      record := { PinRecord.initial with pin := some [1, 2, 3, 4], master := some [5, 5, 5, 5, 5],
                                         level := .maximum } } }

/-- The guarded evening with a pass on O0. -/
def passed (pass : Pass) : State :=
  { guarded with pc := { guarded.pc with passes := guarded.pc.passes.set 0 (some pass) } }

/-! ### The spec's worked examples -/

/-- Section 9.3: the check value of the CRC. -/
theorem test_crc_check_value :
    crc [0x31, 0x32, 0x33, 0x34, 0x35, 0x36, 0x37, 0x38, 0x39] = 0x29B1 := by decide +kernel

/-- Section 2.5, case A. -/
theorem test_divisor_case_a : nominalDivisor 211250 45750 = 4112 ∧ divisorM 4112 = 128 ∧
    divisorS 4112 = 16 ∧ residue 211250 45750 = 0 := by decide

/-- Section 2.5, case B. -/
theorem test_divisor_case_b : nominalDivisor 213010 45750 = 4140 ∧ residue 213010 45750 = -20 ∧
    divisorWord 4132 = BitVec.ofNat 10 129 ++ BitVec.ofNat 5 4 := by decide

/-- Section 2.5, cases A and B: the counts. -/
theorem test_counts_case_a_b : classify 45750 0 0 (.count 183420) = .locked ∧
    classify 45750 0 0 (.count 184950) = .corrected (-8) ∧
    classify 45750 (-8) 1 (.count 182960) = .locked := by decide

/-- Section 2.5, case C. -/
theorem test_counts_case_c : classify 45750 0 0 (.count 188000) = .corrected (-16) ∧
    classify 45750 (-16) 1 (.count 187100) = .corrected (-32) ∧
    classify 45750 (-32) 2 (.count 183700) = .failed .offFrequency ∧
    classify 45750 (-32) 2 (.count 183550) = .locked := by decide

/-- R122: 17:00 to 21:29, and 22:00 to 05:59. -/
theorem test_windows : (Window.mk 1020 1290).admits 1020 = true ∧ (Window.mk 1020 1290).admits 1290 = false ∧
    (Window.mk 1320 360).admits 359 = true ∧ (Window.mk 1320 360).admits 360 = false := by decide

/-- Section 3.4's state: O0 bound to P1 with the given locked list, the PIN ARMED. -/
def stepping (locked : List Nat) : State :=
  settle { evening with
    pc := { evening.pc with
      profiles := evening.pc.profiles.set 1 { Profile.initial with locked := locked }
      bindings := evening.pc.bindings.set 0 1
      record := { PinRecord.initial with pin := some [1, 2, 3, 4] } } }

/-- Section 3.4: stepping past locked channels, the four rows. -/
theorem test_step_targets :
    ((stepping [2, 41]).stepTarget 0 .up).map MapEntry.channel = some 5 ∧
      ((stepping [2, 41]).stepTarget 0 .down).map MapEntry.channel = some 14 ∧
      ((stepping [2, 5, 14, 41]).stepTarget 0 .up).map MapEntry.channel = some 40 ∧
      (stepping [2, 5, 14, 40, 41]).stepTarget 0 .up = none := by decide +kernel

/-- Section 3.4: the first row stays on T0, the route moving to slot 1, and replies ACCEPTED with 5. -/
theorem test_step_row_one :
    let t := after .step (ask 0x13 [0, 0] (stepping [2, 41]))
    t.ou[0] = ⟨.active, some 5, .tuner 0 1⟩ ∧ t.tp.tuners[0] = lockedTuner ∧
      t.cl.transmit = [⟨0x93, 7, .accepted, [0, 5]⟩] := by decide +kernel

/-- Section 1.4: packet 5 completes version 8. -/
def collecting : State :=
  { live with cm := {
      committed := { entries := [], version := some 7 }
      staging := some {
        version := 8, count := 3, received := [0, 2]
        entries := [⟨entry 2 55250 0 false .free, 0⟩, ⟨entry 5 79250 1 false (.tier 3), 0⟩,
          ⟨entry 40 211250 2 true .pay, 2⟩, ⟨entry 41 211250 2 false .free, 2⟩] } } }

/-- Section 1.4: packet 5, channel 5 at 83,250 kHz and channel 12 at 67,250 kHz. -/
def packet5 : List Byte :=
  [8, 1, 3, 2] ++ wireEntry ⟨5, 83250, 0, false, 1, 3, []⟩ ++ wireEntry ⟨12, 67250, 3, true, 2, 0, []⟩

theorem test_map_commit_version_8 :
    (after .map (hand 0x20 packet5 collecting)).cm =
      { committed := {
          entries := [entry 2 55250 0 false .free, entry 5 83250 0 false (.tier 3),
            entry 12 67250 3 true .pay, entry 40 211250 2 true .pay, entry 41 211250 2 false .free]
          version := some 8 }
        staging := none } := by decide +kernel

/-- Section 1.4: packet 3 replaces segment 0's entries, and channel 4 leaves staging. -/
theorem test_map_repeated_segment :
    let held : State := { live with cm := {
      committed := { entries := [], version := some 7 }
      staging := some {
        version := 8, count := 3, received := [0, 2]
        entries := [⟨entry 2 55250 0 false .free, 0⟩, ⟨entry 4 61250 0 false .free, 0⟩,
          ⟨entry 5 77250 1 false (.tier 3), 0⟩, ⟨entry 40 211250 2 true .pay, 2⟩,
          ⟨entry 41 211250 2 false .free, 2⟩] } } }
    (after .map (hand 0x20 ([8, 0, 3, 2] ++ wireEntry ⟨2, 55250, 0, false, 0, 0, []⟩ ++
      wireEntry ⟨5, 79250, 1, false, 1, 3, []⟩) held)).cm = collecting.cm := by decide +kernel

/-- Section 6.8: 20:50, BUY on channel 40. -/
theorem test_buy_first_purchase :
    let t := after .buy (ask 0x30 [0, 0] evening)
    t.ep.log = [⟨1, 40, 320, 2685, 2745, 40, 2690, .pending, 0⟩] ∧
      t.cl.transmit = [⟨0xB0, 7, .accepted, [0, 0, 0, 1, 0, 40]⟩] ∧ t.ep.seq.next = 2 := by decide +kernel

/-- Section 6.8: at 21:00, PURACK through 2 reports record 1 and removes record 2. -/
theorem test_purack_through_2 :
    let s : State := { evening with
      tb := { evening.tb with clock := some { day := 1, second := 75600 } }
      ep := { evening.ep with
        log := [⟨1, 40, 320, 2685, 2745, 40, 2690, .opened, 0⟩, ⟨2, 12, 55, 2640, 2700, 30, 2692, .opened, 1⟩]
        seq := { next := 3, acked := 0 } } }
    (after .purack (hand 0x43 (u32 2) s)).ep =
      { s.ep with log := [⟨1, 40, 320, 2685, 2745, 40, 2690, .reported, 0⟩],
                  seq := { next := 3, acked := 2 } } := by decide +kernel

/-- Section 6.5: the write of slot 0 completes, and record 1 becomes OPEN. -/
theorem test_write_completes_purchase :
    let t := after .writeCompletion (after .buy (ask 0x30 [0, 0] evening))
    t.ep.log = [⟨1, 40, 320, 2685, 2745, 40, 2690, .opened, 0⟩] ∧ t.ep.lastCompleted = some 1 ∧
      t.ae[0].decision = .clear ∧ t.ss.records.sequence.map Stored.content = some { next := 2, acked := 0 } := by
  decide +kernel

/-- Section 9.4: the stray sync's candidate fails its CRC, and only the sync leaves. -/
theorem test_stray_sync_rejected :
    let s : State := { live with hf := { live.hf with
      buffer := ([0x9C, 0x9C, 0x10, 0, 0, 0, 0, 0, 0x05, 0x4E, 0x84] : List Byte).map .byte
      assembler := .check 9 } }
    (after .assemblerByteRead s).hf = { s.hf with buffer := s.hf.buffer.drop 1, assembler := .hunt } := by
  decide +kernel

/-- Section 9.3: a TIME packet for day 20,100, second 71,985, sets the clock; R64 latches TIME_SET. -/
theorem test_time_packet :
    let t := after .time (hand 0x10 [0x4E, 0x84, 0x01, 0x19, 0x31] live)
    t.tb.clock = some { day := 20100, second := 71985 } ∧ t.cl.latches = 0x2000#17 := by decide +kernel

/-- R147, section 8.7: the preview of a priced programme, then BLOCKED_PAY. -/
theorem test_preview_then_blocked :
    (settle { evening with tb := { evening.tb with clock := some { day := 1, second := 74759 } } }).ae[0].decision
        = .preview 3 ∧
      evening.ae[0].decision = .blockedPay .notBought := by decide +kernel

/-- R187: a whole frame joins the queue. -/
theorem test_frame_joins_queue :
    (after (.characterReceived (.byte 0x09)) { live with cl := { live.cl with parser := .tag 0 0x01 } }).cl.queue
      = [⟨0x01, 0x09, []⟩] := by decide +kernel

/-- R61: the last second of the last day rolls the day over to 0. -/
theorem test_day_rollover :
    (after .secondExpiry { live with tb := ⟨4294967279, some ⟨65535, 86399⟩⟩ }).tb =
      { localSeconds := 0, clock := some { day := 0, second := 0 } } := by decide +kernel

/-- R126: the fifth wrong PIN locks out. -/
theorem test_fifth_wrong_pin :
    let s : State := { guarded with pc := { guarded.pc with record := { guarded.pc.record with attempts := 4 } } }
    let t := after .pinClear (ask 0x41 [4, 9, 9, 9, 9] s)
    t.pc.record.attempts = 5 ∧ t.pc.record.lockout = 15 ∧ t.cl.latches = 2#17 ∧
      t.cl.transmit = [⟨0xC1, 7, .wrongPin, []⟩] := by decide +kernel

/-- R186: every byte reads back from its character; a low stop bit is a framing error. -/
theorem test_characters_read_back :
    (∀ b : Byte, readLevels (characterLevels b) = some (.byte b)) ∧
      readLevels (List.replicate 10 false) = some .framingError := by decide +kernel

/-- R21, R56: N = 4,132 as M = 129 and S = 4, and the route of T0 with slot 2, most significant bit first. -/
theorem test_words_on_the_lines :
    PinEvent.levels (.divisor 0 (divisorWord 4132)) =
        [false, false, true, false, false, false, false, false, false, true,
          false, false, true, false, false] ∧
      PinEvent.levels (.route 0 (routeWord (some ⟨0, 2⟩))) = [false, false, true, false] ∧
      PinEvent.levels (.route 0 (routeWord none)) = [true, true, false, false] := by decide +kernel

/-- R204, R205: a record whose check value does not match is blank, and its owner loads the default. -/
theorem test_mismatched_record_loads_the_default (f : FeedSetup) :
    let s : State := { State.reset with ss := { State.reset.ss with records := { State.reset.ss.records with
      feedSetup := some { content := f, check := Config.checkValue f + 1 } } } }
    (after .loadEnd s).hf.setup = .initial :=
  (readRecord_takes (some ⟨f, Config.checkValue f + 1⟩) FeedSetup.initial).2 fun _ h e => by
    cases h; exact absurd e (Nat.succ_ne_self _)

/-- R196: the RESET line cuts a reply off, and LTXD rests; the list itself is emptied at the release. -/
theorem test_reset_cuts_the_reply :
    let s : State := { live with cl := { live.cl with transmit := [⟨0x81, 7, .ok, []⟩] } }
    s.ltxdRests = false ∧ (after .resetLineAssert s).ltxdRests = true ∧
      (after .resetLineAssert s).pins.wave.length = s.pins.wave.length + 5 ∧
      (after .resetLineRelease (after .resetLineAssert s)).cl.transmit = [] := by decide +kernel

/-- R196: a reply cut off in its first character leaves LTXD high. -/
theorem test_levels_of_a_cut_reply : PinEvent.levels (.replyCut [0x7E] 3) = [false, false, true, true] := by
  decide +kernel

/-- R171: an edge while FACK is inactive is out of turn and leaves a gap mark. -/
theorem test_edge_out_of_turn :
    let s : State := { live with hf := { live.hf with fackHeld := true } }
    (after (.fstbActiveEdge 0x55) s).hf.buffer = [.gap] ∧
      (after (.fstbActiveEdge 0x55) live).hf.buffer = [.byte 0x55] := by decide +kernel

/-- WellFormed holds no check that a term could fail (its docstring says why). -/
theorem test_wellFormed_all : (Instr.gateCompletion 2 2000000).wellFormed = true := by decide

/-- The table gives no row any bits. -/
theorem test_no_word_spells_a_command : decodeTableWord 8 0 = none := by decide

/-! ### States and operands that meet each obligation's hypotheses -/

/-- The request `ask` puts in the queue. -/
def req (kind : Byte) (body : List Byte) : Request := ⟨kind, 7, body⟩

/-- Channel 50 on a carrier of its own, besides version 9. -/
def version10 : Lineup :=
  { entries := version9.entries ++ [entry 50 67250 3 false .free], version := some 10 }

/-- Every tuner in use: O0 on 40, O1 on 2, O2 on 14, and O3 awake without a channel. -/
def full : State :=
  settle { evening with
    cm := { committed := version10, staging := none }
    tp := { tuners := #v[lockedTuner, { live.startedOn 55250 with state := .settling },
              live.startedOn 83250], ifKHz := 45750 }
    ou := #v[⟨.active, some 40, .tuner 0 2⟩, ⟨.active, some 2, .tuner 1 0⟩, ⟨.active, some 14, .tuner 2 0⟩,
      ⟨.active, none, .none⟩] }

/-- Every tuner in use, and O3 waiting for channel 50. -/
def waiting : State :=
  settle { full with ou := full.ou.set 3 ⟨.active, some 50, .waiting⟩ }

/-- Version 11 in one segment: channels 2, 40 and 50. -/
def remap : List Byte :=
  [11, 0, 1, 3] ++ wireEntry ⟨2, 61250, 0, false, 0, 0, []⟩ ++ wireEntry ⟨40, 211250, 2, true, 2, 0, []⟩ ++
    wireEntry ⟨50, 67250, 3, false, 0, 0, []⟩

/-- In STANDBY, O0 remembering a channel of the map and O1 one that has left it. -/
def sleeping : State :=
  { live with
    cm := { committed := version9, staging := none }
    ou := #v[⟨.standby, some 40, .none⟩, ⟨.standby, some 3, .none⟩, ⟨.standby, none, .none⟩,
      ⟨.standby, none, .none⟩] }

/-- A tuner in a given state on T0. -/
def tunerIn (x : TunerState) : State :=
  { evening with tp := { evening.tp with tuners := evening.tp.tuners.set 0 { lockedTuner with
      state := x, reason := if x = .failed then some .noLock else none } } }

/-- The premises of each invariant's statement together, with the laws of the map and the store beside
them. -/
theorem witness_invariants :
    let s : State := { evening with pending := [.secondExpiry] }
    s.PinLaw ∧ s.DecisionLaw ∧ s.TunerLaw ∧ s.PoolLaw ∧ s.PinRecordLaw ∧ s.StoreLaw ∧ s.GuideLaw ∧
      s.FeedLaw ∧ s.LinkLaw ∧ s.MapLaw := by
  refine ⟨?_, ?_, ?_, ?_, ?_, ?_, ?_, ?_, ?_, ?_, ?_, ?_, ?_⟩ <;> decide +kernel

theorem witness_StepsKeepTheMapLawful : ({ evening with pending := [.secondExpiry] } : State).MapLaw := by
  refine ⟨?_, ?_, ?_, ?_⟩ <;> decide +kernel

theorem witness_StepsKeepThePurchaseLogLawful :
    ({ evening with pending := [.secondExpiry] } : State).PurchaseLaw := by
  refine ⟨?_, ?_, ?_, ?_, ?_⟩ <;> decide +kernel

theorem witness_step_answers : ∃ t, step { evening with pending := [.secondExpiry] } = .next t := ⟨_, rfl⟩

theorem witness_RecordsChangeOnlyAtWriteCompletion : live.ss.engine = none ∧
    (∃ t, exec .writeCompletion live = .next t) ∧ ∃ t, exec .ident live = .next t :=
  ⟨rfl, ⟨_, rfl⟩, ⟨_, rfl⟩⟩

/-- A latch set before, and a command that changes a room's decision. -/
theorem witness_LatchesStayUntilTakenOrReset :
    let s : State := { live with cl := { live.cl with latches := 1 } }
    (∃ t, exec .ident s = .next t) ∧ s.mayReset .ident = false ∧ s.cl.isSet .ready = true ∧
      let u := ask 0x11 [] evening
      (∃ t, exec .standby u = .next t) ∧ u.mayReset .standby = false ∧
        ¬u.ae[(0 : OutputId)].SameToTheHost (after .standby u).ae[(0 : OutputId)] ∧
        (after .standby u).cl.isSet (.outputState 0) = true := by
  have before : (ask 0x11 [] evening).ae[(0 : OutputId)].decision = .blockedPay .notBought := by decide +kernel
  have later : (after .standby (ask 0x11 [] evening)).ae[(0 : OutputId)].decision = .off := by decide +kernel
  refine ⟨⟨_, rfl⟩, by decide, by decide, ⟨_, rfl⟩, by decide, fun same => ?_, by decide +kernel⟩
  have same := same.1
  rw [before, later] at same
  cases same

theorem witness_FrozenSettingsStand :
    let s : State := { live with pc := { live.pc with frozen := true } }
    (∃ t, exec .pinreset s = .next t) ∧ s.mayReset .pinreset = false := ⟨⟨_, rfl⟩, by decide⟩

theorem witness_TimeMovesOnlyWithSecondsAndTimePackets :
    (∃ t, exec .time live = .next t) ∧ ∃ t, exec .ident live = .next t := ⟨⟨_, rfl⟩, ⟨_, rfl⟩⟩

theorem witness_LoadPeriodServesNothing :
    State.reset.phase = .loading ∧ State.reset.cl.stopped = false ∧ State.reset.ss.engine = none ∧
      State.reset.mayReset .secondExpiry = false ∧ (∃ t, exec .secondExpiry State.reset = .next t) ∧
      ({ live with phase := .held } : State).ss.engine = none :=
  ⟨rfl, rfl, rfl, rfl, ⟨_, rfl⟩, rfl⟩

/-- R196: a held part counts no second and ignores a lock indication; FSTB's level is kept. -/
theorem test_held_part_ignores_timers_and_lines :
    let s : State := { tunerIn .settling with phase := .held }
    after .secondExpiry s = s ∧ after (.lockIndication 0) s = s ∧ after (.settleExpiry 0) s = s ∧
      (after (.fstbActiveEdge 0x55) s).hf.buffer = [] := by decide +kernel

theorem witness_EveryResetKindGivesItsState :
    ({ live with phase := .held } : State).phase = .held ∧
      let s : State := { live with cl := { live.cl with stopped := true, transmit := [⟨0x83, 7, .ok, []⟩] } }
      s.phase = .running ∧ s.cl.stopped = true ∧ s.cl.transmit = [⟨0x83, 7, .ok, []⟩] := by decide

theorem witness_load_and_reset_phases :
    State.reset.phase = .loading ∧ live.phase = .running ∧ live.phase ≠ .off ∧
      ({ live with cl := { live.cl with transmit := [⟨0x81, 7, .ok, []⟩] } } : State).cl.transmit =
        ⟨0x81, 7, .ok, []⟩ :: [] := by decide

/-- Two purchases of one programme stored, in slots 0 and 31, and next number 2. -/
def reloading : State :=
  { State.reset with ss := { State.reset.ss with records := { State.reset.ss.records with
      sequence := some (.written { next := 2, acked := 0 })
      slots := (State.reset.ss.records.slots.set 0
        (some (.written ⟨1, 40, 320, 0, 60, 40, 0, .opened, 0⟩))).set 31
        (some (.written ⟨2, 40, 320, 0, 60, 40, 0, .opened, 0⟩)) } } }

theorem witness_LoadReconcilesThePurchases :
    (∀ j k : SlotId, j ≠ k → ∀ p ∈ readRecord reloading.ss.records.slots[j],
      ∀ q ∈ readRecord reloading.ss.records.slots[k], p.seq ≠ q.seq) ∧
      ∃ t, exec .loadEnd reloading = .next t := by
  refine ⟨?_, ⟨_, rfl⟩⟩
  have reads (k : SlotId) : readRecord reloading.ss.records.slots[k] =
      if k = 31 then some ⟨2, 40, 320, 0, 60, 40, 0, .opened, 0⟩
      else if k = 0 then some ⟨1, 40, 320, 0, 60, 40, 0, .opened, 0⟩ else none := by
    by_cases h : k = 31
    · subst h; simp [reloading]
    by_cases g : k = 0
    · subst g; simp [reloading]
    have h' : 31 ≠ k.val := fun e => h (Fin.ext e.symm)
    have g' : 0 ≠ k.val := fun e => g (Fin.ext e.symm)
    simp [reloading, State.reset, h, g, h', g']
  simp only [reads]
  decide +kernel

theorem witness_CompletedFramesAreQueuedOrBusy :
    let s (p : Parser) (queued waiting : Nat) : State := { live with cl := { live.cl with
      parser := p, queue := List.replicate queued (req 1 []),
      transmit := List.replicate waiting ⟨0x81, 7, .ok, []⟩ } }
    (s (.tag 0 1) 3 8).phase = .running ∧ (s (.tag 0 1) 3 8).cl.queue.length < 4 ∧
      4 ≤ (s (.body 1 1 2 []) 4 7).cl.queue.length ∧ (s (.body 1 1 2 []) 4 7).cl.transmit.length < 8 ∧
      8 ≤ (s (.body 1 1 2 []) 4 8).cl.transmit.length ∧
      (s (.body 1 1 2 []) 4 8).cl.parser = .body 1 1 2 [] := by decide

/-- The parser in each state, with the last length taken and the first refused. -/
theorem witness_ParserTakesCharactersAndDiscards :
    let s (p : Parser) : State := { live with cl := { live.cl with parser := p } }
    (s .idle).phase = .running ∧ (s .length).cl.parser = .length ∧ (250 : Byte).toNat ≤ 250 ∧
      ¬(251 : Byte).toNat ≤ 250 ∧ (s (.kind 0)).cl.parser = .kind 0 ∧ (s (.tag 1 2)).cl.parser = .tag 1 2 ∧
      (s (.body 2 1 7 [])).cl.parser = .body 2 1 7 [] ∧ ([] : List Byte).length + 1 < 2 ∧
      State.reset.phase = .loading := by decide

theorem witness_RepliesLeaveInOrder :
    let s : State := { live with cl := { live.cl with transmit := [⟨0x83, 7, .busy, []⟩], stopped := true } }
    s.phase = .running ∧ s.cl.transmit = [⟨0x83, 7, .busy, []⟩] ∧ (.busy : Status) ≠ .ok := by decide

theorem witness_UnknownKindsAndBadLengthsAreRefused :
    (ask 0x51 [] live).Serves (req 0x51 []) [] ∧ (ask 0x04 [0] live).Serves (req 0x04 [0]) [] ∧
      (¬∃ o n d, ([0, 5] : List Byte) = o :: n :: d ∧ d.length = n.toNat) ∧
      (¬∃ n d, ([] : List Byte) = n :: d ∧ d.length = n.toNat) := by
  refine ⟨by decide, by decide, ?_, ?_⟩
  · rintro ⟨o, n, d, h, k⟩
    simp only [List.cons.injEq] at h
    obtain ⟨-, rfl, rfl⟩ := h
    exact absurd k (by decide)
  · rintro ⟨n, d, h, -⟩
    cases h

theorem witness_queries :
    (ask 0x01 [] live).Serves (req 0x01 []) [] ∧ (ask 0x02 [] evening).Serves (req 0x02 []) [] ∧
      (ask 0x14 [3] live).Serves (req 0x14 [3]) [] ∧ (ask 0x14 [4] live).Serves (req 0x14 [4]) [] ∧
      (ask 0x15 [2] live).Serves (req 0x15 [2]) [] ∧ (ask 0x15 [3] live).Serves (req 0x15 [3]) [] ∧
      (ask 0x45 [3] live).Serves (req 0x45 [3]) [] ∧ (ask 0x45 [4] live).Serves (req 0x45 [4]) [] ∧
      (ask 0x32 [] live).Serves (req 0x32 []) [] := by decide

theorem witness_title_and_pages :
    (ask 0x22 (u16 40 ++ u16 320) evening).Serves (req 0x22 (u16 40 ++ u16 320)) [] ∧
      evening.pg.record 40 320 = some programme320 ∧ evening.pg.record 999 1 = none ∧
      (ask 0x20 (u16 999 ++ u8 1) evening).Serves (req 0x20 (u16 999 ++ u8 1)) [] ∧
      (ask 0x20 (u16 1000 ++ u8 0) evening).Serves (req 0x20 (u16 1000 ++ u8 0)) [] ∧
      (ask 0x21 (u16 1 ++ u32 94371839 ++ u8 255) evening).Serves
        (req 0x21 (u16 1 ++ u32 94371839 ++ u8 255)) [] ∧
      (ask 0x21 (u16 1 ++ u32 94371840 ++ u8 1) evening).Serves
        (req 0x21 (u16 1 ++ u32 94371840 ++ u8 1)) [] ∧
      (ask 0x31 (u32 1 ++ u8 1) evening).Serves (req 0x31 (u32 1 ++ u8 1)) [] ∧
      (ask 0x31 (u32 0 ++ u8 0) evening).Serves (req 0x31 (u32 0 ++ u8 0)) [] := by decide +kernel

theorem witness_MaskTakeAndRestartAreServed :
    let s : State := { live with cl := { live.cl with latches := 0x10001 } }
    (ask 0x04 [0xFF, 0xFF] s).Serves (req 0x04 [0xFF, 0xFF]) [] ∧ (ask 0x05 [] s).Serves (req 0x05 []) [] ∧
      s.cl.isSet .ready = true ∧ s.cl.unmasked .ready = true ∧
      (∀ m ∈ allNotices, s.cl.isSet m = true → s.cl.unmasked m = true → Notice.ready.index ≤ m.index) ∧
      (∀ m ∈ allNotices, live.cl.isSet m = false) ∧
      (ask 0x03 [] s).Serves (req 0x03 []) [] ∧ (∀ c ∈ [Instr.unknownRequest, .feedSetup], c ∈ requestRows) ∧
      (after .restart (ask 0x03 [] s)).cl.stopped = true ∧ s.cl.queue = [] ∧
      (ask 0x01 [] { s with cl := { s.cl with
        transmit := List.replicate 8 ⟨0x81, 7, .ok, []⟩ } }).cl.transmit.length = 8 := by decide

theorem witness_WakeServesEveryRoom :
    (ask 0x10 [] sleeping).Serves (req 0x10 []) [] ∧
      (∀ o : OutputId, sleeping.ou[o].mode = .standby ∧ sleeping.ou[o].attachment = .none) ∧
      (∀ u : TunerId, sleeping.tp.tuners[u] = .idle) ∧
      sleeping.entryOf 0 = some (entry 40 211250 2 true .pay) ∧ sleeping.entryOf 1 = none ∧
      (ask 0x10 [] evening).Serves (req 0x10 []) [] ∧ evening.ou[(0 : OutputId)].mode = .active := by
  decide +kernel

theorem witness_StandbyDarkensEveryRoom :
    (ask 0x11 [] sleeping).Serves (req 0x11 []) [] ∧ (ask 0x11 [] evening).Serves (req 0x11 []) [] ∧
      evening.ou[(0 : OutputId)].mode = .active ∧ ∀ o : OutputId, sleeping.ou[o].mode = .standby := by
  decide +kernel

/-- O1 joins T0, O0 retunes its own T0, O1 starts T1, and O3 finds no tuner. -/
theorem witness_SelectIsServedByTheFirstCaseOfAllocation :
    (ask 0x12 (1 :: u16 5) evening).Serves (req 0x12 (1 :: u16 5)) [] ∧ evening.PoolLaw ∧
      evening.cm.committed.resolve 5 = some (entry 5 211250 1 false (.tier 3)) ∧
      evening.ou[(1 : OutputId)] = ⟨.active, none, .none⟩ ∧ evening.attachedTo 0 = [0] ∧
      evening.cm.committed.resolve 2 = some (entry 2 55250 0 false .free) ∧
      evening.tp.tuners[(1 : TunerId)].state = .idle ∧ full.PoolLaw ∧ waiting.PoolLaw ∧
      (∀ u : TunerId, full.tp.tuners[u].state ≠ .idle ∧ full.tp.tuners[u].carrier ≠ some 67250) ∧
      full.cm.committed.resolve 50 = some (entry 50 67250 3 false .free) ∧
      (∀ u, full.attachedTo u ≠ [3]) ∧ full.ou[(3 : OutputId)] = ⟨.active, none, .none⟩ := by
  refine ⟨?_, ?_, ?_, ?_, ?_, ?_, ?_, ?_, ?_, ?_, ?_, ?_, ?_⟩ <;> decide +kernel

/-- O1 leaves T1 for T0's carrier, and O3, waiting, takes T1 up. -/
theorem test_waiting_output_takes_the_emptied_tuner :
    let t := after .select (ask 0x12 (1 :: u16 5) waiting)
    t.ou[(1 : OutputId)] = ⟨.active, some 5, .tuner 0 1⟩ ∧
      t.ou[(3 : OutputId)] = ⟨.active, some 50, .tuner 1 3⟩ ∧
      t.tp.tuners[(1 : TunerId)] = waiting.startedOn 67250 := by decide +kernel

theorem witness_SelectAndStepRefuseInOrder :
    (ask 0x12 (4 :: u16 1) live).Serves (req 0x12 (4 :: u16 1)) [] ∧
      (ask 0x12 (3 :: u16 999) evening).Serves (req 0x12 (3 :: u16 999)) [] ∧
      evening.cm.committed.resolve 999 = none ∧
      (ask 0x12 (0 :: u16 40) evening).Serves (req 0x12 (0 :: u16 40)) [] ∧
      evening.ou[(0 : OutputId)].channel = some 40 ∧ (∀ p : OutputId, live.ou[p].mode = .standby) ∧
      (ask 0x13 [3, 2] live).Serves (req 0x13 [3, 2]) [] ∧
      (ask 0x13 [3, 1] live).Serves (req 0x13 [3, 1]) [] := by decide +kernel

theorem witness_StepSelectsTheFirstEligibleChannel :
    (ask 0x13 [0, 0] evening).Serves (req 0x13 [BitVec.ofNat 8 (0 : OutputId).val, 0]) [] ∧
      evening.cm.committed.Law ∧ evening.ou[(0 : OutputId)].mode = .active := by decide +kernel

theorem witness_TunerSetupSetsTheIf :
    (ask 0x16 (u24 29999) live).Serves (req 0x16 (u24 29999)) [] ∧
      (ask 0x16 (u24 30000) live).Serves (req 0x16 (u24 30000)) [] ∧
      (ask 0x16 (u24 60000) evening).Serves (req 0x16 (u24 60000)) [] ∧
      (ask 0x16 (u24 60001) live).Serves (req 0x16 (u24 60001)) [] ∧
      (ask 0x16 (u24 45750) live).Serves (req 0x16 (u24 45750)) [] ∧ live.tp.ifKHz = 45750 ∧
      (∀ o : OutputId, live.ou[o].mode = .standby) ∧ evening.ou[(0 : OutputId)].mode = .active := by
  decide +kernel

theorem witness_TunerEventsFollowTheState :
    ∀ x : List TunerState, x = [.idle, .settling, .measuring, .locked, .failed] →
      ∀ y ∈ x, (tunerIn y).phase = .running ∧ (tunerIn y).tp.tuners[(0 : TunerId)].state = y ∧
        (tunerIn y).tp.tuners[(0 : TunerId)].carrier = some 211250 := by
  rintro _ rfl
  decide +kernel

/-- Counts at the edges of each clause, and the half that rounds away from zero on either side. -/
theorem witness_GateCompletionJudgesTheCount :
    (tunerIn .measuring).phase = .running ∧
      (tunerIn .measuring).tp.tuners[(0 : TunerId)].state = .measuring ∧
      (tunerIn .measuring).tp.ifKHz = 45750 ∧ (1048575 : Nat) < 1048576 ∧ (45749 : Nat) < 45750 ∧
      ((182400 : Nat) : Int) - 4 * (45750 : Nat) = -600 ∧ ((183600 : Nat) : Int) - 4 * (45750 : Nat) = 600 ∧
      (2 * (((183625 : Nat) : Int) - 4 * (45750 : Nat) - 250 * 3) = -250 ∧ (0 : Int) < 625) ∧
      (2 * (((182375 : Nat) : Int) - 4 * (45750 : Nat) - 250 * (-3)) = 250 ∧ (-625 : Int) < 0) := by
  decide +kernel

/-- O0 of the evening reaches the last clause; the clauses before it are met in STANDBY, without a channel
and waiting. -/
theorem witness_DecisionsFollowTheNineSteps :
    evening.ou[(0 : OutputId)] = ⟨.active, some 40, .tuner 0 2⟩ ∧
      evening.cm.committed.resolve 40 = some (entry 40 211250 2 true .pay) ∧
      evening.ep.ent.unitState = .active ∧ evening.tp.tuners[(0 : TunerId)].state = .locked ∧
      evening.current 40 = some programme320 ∧ evening.now = some 2690 ∧
      sleeping.ou[(0 : OutputId)].mode = .standby ∧ evening.ou[(1 : OutputId)].channel = none ∧
      waiting.ou[(3 : OutputId)].attachment = .waiting ∧
      (passed (.channel 40 240)).pinState ≠ .unset ∧
      (passed (.channel 40 240)).pc.passes[(0 : OutputId)] = some (.channel 40 240) := by decide +kernel

/-- R138, R155: the pass that sets the test aside is in the record; an EVENT pass of a programme that is over
ends at the next evaluation, and a CHANNEL pass stays. -/
theorem test_passes_in_the_record_and_at_an_evaluation :
    ((passed (.event 40 320)).decisionRecord 0).pass = some (.event 40 320) ∧
      ((passed (.event 40 321)).decisionRecord 0).pass = none ∧
      (after .unit (hand 0x44 [0] (passed (.event 40 321)))).pc.passes[(0 : OutputId)] = none ∧
      (after .unit (hand 0x44 [0] (passed (.event 40 320)))).pc.passes[(0 : OutputId)] = some (.event 40 320) ∧
      (after .unit (hand 0x44 [0] (passed (.channel 40 240)))).pc.passes[(0 : OutputId)] =
        some (.channel 40 240) := by decide +kernel

/-- R121: the conditions in their order, on the room of the guarded evening. -/
theorem test_parental_reasons :
    let v : Profile := { guarded.pc.profiles[(0 : ProfileId)] with
      locked := [40], window := some ⟨1290, 1020⟩, blockUnrated := true }
    guarded.ae[(0 : OutputId)].decision = .blockedParental .rating ∧
      v.test 40 (some 1250) (some programme320) = some .channelLock ∧
      ({ v with locked := [41] }).test 40 (some 1250) (some programme320) = some .window ∧
      ({ v with locked := [], window := none }).test 40 none none = some .unrated := by decide +kernel

theorem witness_SecondsCountAndMinutesAct :
    (settle { evening with tb := ⟨4294967279, some ⟨65535, 86399⟩⟩ }).TimeLaw ∧
      ({ evening with tb := ⟨59, none⟩ } : State).TimeLaw ∧ evening.phase = .running ∧
      State.reset.TimeLaw ∧ State.reset.phase = .loading := by decide +kernel

theorem witness_TimePacketsSetTheClock :
    (hand 0x10 [0, 1, 1, 0x24] live).Hands 0x10 [0, 1, 1, 0x24] ∧
      (hand 0x10 (u16 1 ++ u24 86399) live).Hands 0x10 (u16 1 ++ u24 86399) ∧
      (hand 0x10 (u16 1 ++ u24 86400) live).Hands 0x10 (u16 1 ++ u24 86400) ∧
      (hand 0x10 (u16 1 ++ u24 75059) evening).Hands 0x10 (u16 1 ++ u24 75059) ∧
      (hand 0x10 (u16 1 ++ u24 75060) evening).Hands 0x10 (u16 1 ++ u24 75060) ∧
      (hand 0x10 (u16 1 ++ u24 75061) evening).Hands 0x10 (u16 1 ++ u24 75061) ∧
      evening.tb.clock = some ⟨1, 75000⟩ := by decide +kernel

theorem witness_PacketBodiesReadAsLaidOut :
    let x : RawEntry := ⟨65535, 16777215, 255, true, 3, 255, [0x41]⟩
    let y : RawEvent := ⟨65535, 65535, 65535, 65535, 255, 0xFF, 255, 255, [0x41]⟩
    (∀ e ∈ List.replicate 16 x, e.Fits) ∧ (List.replicate 16 x).length ≤ 16 ∧
      (∀ e ∈ List.replicate 16 y, e.Fits) ∧ (List.replicate 16 y).length ≤ 16 := by decide

/-- A segment that waits for others, one of the committed version, and one that cannot be a segment. -/
theorem witness_MapSegmentsAreStaged :
    let s := hand 0x20 [9, 15, 16, 0] collecting
    s.Hands 0x20 [9, 15, 16, 0] ∧ readSegment [9, 15, 16, 0] = some ⟨9, 15, 16, []⟩ ∧
      s.cm.committed.version = some 7 ∧ (s.collected ⟨9, 15, 16, []⟩).1 = [] ∧
      (hand 0x20 [7, 0, 1, 0] collecting).Hands 0x20 [7, 0, 1, 0] ∧
      readSegment [7, 0, 1, 0] = some ⟨7, 0, 1, []⟩ ∧
      (hand 0x20 [8, 0, 0, 0] collecting).Hands 0x20 [8, 0, 0, 0] ∧ readSegment [8, 0, 0, 0] = none := by
  decide +kernel

theorem witness_map_law : (hand 0x20 packet5 collecting).MapLaw := by
  refine ⟨?_, ?_, ?_, ?_⟩ <;> decide +kernel

theorem witness_CommitsReplaceTheMapAndReResolve :
    let s := hand 0x20 packet5 collecting
    s.Hands 0x20 packet5 ∧ s.PoolLaw ∧ s.cm.committed.version = some 7 ∧
      (readSegment packet5).map RawSegment.version = some 8 ∧
      (readSegment packet5).map RawSegment.number = some 1 ∧
      (readSegment packet5).map RawSegment.count = some 3 ∧
      (readSegment packet5).map (fun g => (s.collected g).1) = some [0, 2] ∧
      (hand 0x20 remap waiting).Hands 0x20 remap ∧ waiting.PoolLaw ∧
      waiting.ou[(3 : OutputId)].attachment = .waiting := by
  refine ⟨?_, ?_, ?_, ?_, ?_, ?_, ?_, ?_, ?_, ?_⟩ <;> decide +kernel

/-- O0 keeps T0, O1's channel 2 moves to another carrier, O2's channel 14 is gone, and O3 waits: O3 is served
before O1, and takes the lowest tuner that no unchanged room keeps. -/
theorem test_waiting_room_is_served_before_a_moved_one :
    let t := after .map (hand 0x20 remap waiting)
    t.cm.committed.version = some 11 ∧ t.ou[(0 : OutputId)] = ⟨.active, some 40, .tuner 0 2⟩ ∧
      t.ou[(3 : OutputId)] = ⟨.active, some 50, .tuner 1 3⟩ ∧
      t.ou[(1 : OutputId)] = ⟨.active, some 2, .tuner 2 0⟩ ∧
      t.ou[(2 : OutputId)] = ⟨.active, none, .none⟩ := by decide +kernel

theorem witness_guide :
    (hand 0x30 (u16 999 ++ [0]) evening).Hands 0x30 (u16 999 ++ [0]) ∧
      readGuide (u16 999 ++ [0]) = some ⟨999, []⟩ ∧
      (hand 0x30 (u16 1000 ++ [0]) evening).Hands 0x30 (u16 1000 ++ [0]) ∧
      readGuide (u16 1000 ++ [0]) = none ∧
      evening.pg.events.Pairwise (fun a b =>
        a.service < b.service ∨ (a.service = b.service ∧ a.start < b.start)) ∧
      GuideRoom evening.pg.events 48 ∧
      ¬GuideRoom [{ programme320 with title := List.replicate 32768 0 }] 1 := by
  refine ⟨?_, ?_, ?_, ?_, ?_, ?_, fun room => ?_⟩
  · decide +kernel
  · decide +kernel
  · decide +kernel
  · decide +kernel
  · decide +kernel
  · decide +kernel
  · have use := room.2
    simp only [List.map_cons, List.map_nil, List.sum_cons, List.sum_nil, List.length_replicate] at use
    omega

theorem witness_EntitlementPacketsTakeEffect :
    (hand 0x40 [1, 63, 0, 9] live).Hands 0x40 [1, 63, 0, 9] ∧ (hand 0x40 [17] live).Hands 0x40 [17] ∧
      (hand 0x41 [1, 64] live).Hands 0x41 [1, 64] ∧ (hand 0x41 [65] live).Hands 0x41 [65] ∧
      (hand 0x42 [1, 0, 9] live).Hands 0x42 [1, 0, 9] ∧ (hand 0x42 [1] live).Hands 0x42 [1] ∧
      (hand 0x44 [1] live).Hands 0x44 [1] ∧ (hand 0x44 [2] live).Hands 0x44 [2] := by decide +kernel

/-- The first BUY of section 6.8, and the same with the credit used up to the limit. -/
theorem witness_BuyAppendsAPendingPurchase :
    let s := ask 0x30 [0, 0] evening
    s.Serves (req 0x30 (BitVec.ofNat 8 (0 : OutputId).val :: pinField [])) [] ∧ PinForm [] ∧
      s.ou[(0 : OutputId)] = ⟨.active, some 40, .tuner 0 2⟩ ∧
      s.cm.committed.resolve 40 = some (entry 40 211250 2 true .pay) ∧ s.ep.ent.unitState = .active ∧
      s.now = some 2690 ∧ s.current 40 = some programme320 ∧
      s.ae[(0 : OutputId)].decision = .blockedPay .notBought ∧ s.ep.recordFor 40 320 = none ∧
      s.pc.profiles[s.pc.bindings[(0 : OutputId)]].purchasePin = false ∧ s.ep.log.length < 32 ∧
      s.ep.seq.next ≠ 4294967295 ∧ s.ep.creditUsed + programme320.price ≤ s.ep.ent.limit ∧
      ({ s.ep with ent := { s.ep.ent with limit := 40 } } : Purchasing).creditUsed + 40 ≤ 40 := by
  decide +kernel

/-- A wrong PIN at check 10 of BUY, the attempts counted so far given. -/
def misbought (attempts : Nat) : State :=
  ask 0x30 (0 :: pinField [9, 9, 9, 9]) { guarded with
    pc := { guarded.pc with record := { guarded.pc.record with attempts := attempts } }
    ae := guarded.ae.set 0 { guarded.ae[(0 : OutputId)] with decision := .blockedPay .notBought } }

theorem witness_BuyRefusesInOrder :
    let s := misbought 3
    s.Serves (req 0x30 (0 :: pinField [9, 9, 9, 9])) [] ∧ s.StoreLaw ∧ PinForm [9, 9, 9, 9] ∧
      ¬PinForm [9, 9, 9] ∧ s.pinState = .armed ∧ ¬s.pc.record.Accepts false [9, 9, 9, 9] ∧
      s.pc.record.attempts + 1 < 5 ∧ (misbought 4).pinState = .armed ∧
      5 ≤ (misbought 4).pc.record.attempts + 1 ∧
      s.pc.record.Accepts false [1, 2, 3, 4] ∧ ¬s.pc.record.Accepts false [5, 5, 5, 5, 5] ∧
      s.pc.record.Accepts true [5, 5, 5, 5, 5] ∧ s.entryOf 0 = some (entry 40 211250 2 true .pay) ∧
      s.pc.profiles[s.pc.bindings[(0 : OutputId)]].purchasePin = true ∧ s.current 40 = some programme320 ∧
      s.ep.recordFor 40 320 = none := by decide +kernel

/-- R126: the fifth wrong PIN in BUY locks out. -/
theorem test_fifth_wrong_pin_in_buy :
    let t := after .buy (misbought 4)
    t.pc.record.attempts = 5 ∧ t.pc.record.lockout = 15 ∧ t.cl.isSet .pinLockout = true ∧
      t.cl.transmit = [⟨0xB0, 7, .wrongPin, []⟩] ∧ t.ep.log = [] := by decide +kernel

theorem witness_PurackReportsOpenPurchases :
    let s : State := { evening with ep := { evening.ep with
      log := [⟨1, 40, 320, 2685, 2745, 40, 2690, .opened, 0⟩], seq := { next := 2, acked := 0 } } }
    (hand 0x43 (u32 1) s).Hands 0x43 (u32 1) ∧ (hand 0x43 [0, 0, 0] s).Hands 0x43 [0, 0, 0] ∧
      (∃ p ∈ s.ep.log, p.state = .opened ∧ p.seq ≤ 1) ∧ ∀ p ∈ s.ep.log, ¬(p.state = .opened ∧ p.seq ≤ 0) := by
  decide +kernel

theorem witness_WriteCompletionStoresAndGoesOn :
    let s := after .buy (ask 0x30 [0, 0] evening)
    let p : Purchase := ⟨1, 40, 320, 2685, 2745, 40, 2690, .opened, 0⟩
    s.ss.engine = some (.slot 0 (some p) { next := 2, acked := 0 }) ∧
      s.ep.inSlot 0 = some { p with state := .pending } ∧ s.ss.dirty = [] ∧
      ({ s with ss := { s.ss with dirty := [.pin] } } : State).ss.dirty = [.pin] := by decide +kernel

theorem witness_PinRequestsTakeEffect :
    (ask 0x40 (pinField [4, 3, 2, 1] ++ pinField [1, 2, 3, 4]) guarded).Serves
        (req 0x40 (pinField [4, 3, 2, 1] ++ pinField [1, 2, 3, 4])) [] ∧
      guarded.Authorises [1, 2, 3, 4] ∧ evening.Authorises [] ∧
      (ask 0x41 (pinField [5, 5, 5, 5, 5]) guarded).Serves (req 0x41 (pinField [5, 5, 5, 5, 5])) [] ∧
      guarded.pinState = .armed ∧ guarded.pc.record.Accepts true [5, 5, 5, 5, 5] ∧
      guarded.pc.record.level = .maximum ∧ evening.pinState = .unset ∧
      (ask 0x43 [] live).Serves (req 0x43 []) [] := by decide +kernel

/-- A new PIN too short, too long, and with a digit past 9, and a PIN field of 3 digits. -/
theorem witness_malformed_pins :
    (∀ new ∈ ([[1, 2, 3], [1, 2, 3, 4, 5], [1, 2, 3, 10]] : List (List Nat)), (∀ x ∈ new, x < 256) ∧
      (ask 0x40 (pinField new ++ pinField []) live).Serves (req 0x40 (pinField new ++ pinField [])) [] ∧
      ¬(new.length = 4 ∧ ∀ x ∈ new, x ≤ 9)) ∧
      (ask 0x41 (pinField [1, 2, 3]) live).Serves (req 0x41 (pinField [1, 2, 3])) [] ∧ PinBytes [1, 2, 3] ∧
      ¬PinForm [1, 2, 3] ∧ ¬PinForm (List.replicate 9 1) := by decide +kernel

theorem witness_ProfileBindAndPinEnterTakeEffect :
    let v : Profile := { Profile.initial with ceiling := 6, window := some ⟨1439, 0⟩ }
    let channels := List.replicate 16 999
    (ask 0x44 (profileSetBody 3 v ⟨0, 0⟩ channels [1, 2, 3, 4]) guarded).Serves
        (req 0x44 (profileSetBody 3 v ⟨0, 0⟩ channels [1, 2, 3, 4])) [] ∧
      ProfileForm v channels ∧ guarded.Authorises [1, 2, 3, 4] ∧
      (ask 0x46 ([0, 1] ++ pinField [1, 2, 3, 4]) guarded).Serves
        (req 0x46 ([0, 1] ++ pinField [1, 2, 3, 4])) [] ∧
      (ask 0x42 ([0, 0] ++ pinField [1, 2, 3, 4]) guarded).Serves
        (req 0x42 ([0, 0] ++ pinField [1, 2, 3, 4])) [] ∧
      guarded.ae[(0 : OutputId)].decision = .blockedParental .rating ∧
      guarded.ou[(0 : OutputId)] = ⟨.active, some 40, .tuner 0 2⟩ ∧
      guarded.current 40 = some programme320 ∧ guarded.pc.record.Accepts false [1, 2, 3, 4] := by
  decide +kernel

/-- R128, R132, R133, R136: BAD_FIELD at the first value outside each range, and the last value inside; it is
answered though the part is frozen. -/
theorem test_bad_fields :
    let frozen : State := { evening with pc := { evening.pc with frozen := true } }
    let bytes (p ceiling window : Byte) (opens n : Nat) : List Byte :=
      profileSetBytes p ceiling 1 15 1 window opens 1439 (List.replicate n 999) []
    let status (c : Instr) (kind : Byte) (body : List Byte) : List Status :=
      (after c (ask kind body frozen)).cl.transmit.map Reply.status
    status .profileSet 0x44 (bytes 3 6 1 0 16) = [.frozen] ∧
      status .profileSet 0x44 (bytes 3 7 1 0 16) = [.badField] ∧
      status .profileSet 0x44 (bytes 4 6 1 0 16) = [.badField] ∧
      status .profileSet 0x44 (bytes 3 6 1 1439 16) = [.badField] ∧
      status .profileSet 0x44 (bytes 3 6 0 1439 16) = [.frozen] ∧
      status .profileSet 0x44 (bytes 3 6 1 0 17) = [.badField] ∧
      status .bind 0x46 ([3, 3] ++ pinField []) = [.frozen] ∧
      status .bind 0x46 ([3, 4] ++ pinField []) = [.badField] ∧
      status .pinSet 0x40 (pinField [1, 2, 3] ++ pinField []) = [.badField] ∧
      status .pinClear 0x41 (pinField [1, 2, 3]) = [.badField] ∧
      status .pinEnter 0x42 ([0, 2] ++ pinField []) = [.badField] ∧
      status .pinEnter 0x42 ([4, 1] ++ pinField []) = [.badField] := by decide +kernel

/-- R136, the checks before PIN ENTER's PIN, with a wrong PIN that none of them counts. -/
theorem test_pin_enter_refusals :
    let body (scope : Byte) := [0, scope] ++ pinField [9, 9, 9, 9]
    let blocked : DecisionRecord := { guarded.ae[(0 : OutputId)] with decision := .blockedParental .unrated }
    let silent : State := { guarded with pg := { events := [] }, ae := guarded.ae.set 0 blocked }
    after .pinEnter (ask 0x42 (body 0) sleeping) =
        (ask 0x42 (body 0) sleeping).answered (req 0x42 (body 0)) [] .standby [] ∧
      after .pinEnter (ask 0x42 (body 1) evening) =
        (ask 0x42 (body 1) evening).answered (req 0x42 (body 1)) [] .notBlocked [] ∧
      after .pinEnter (ask 0x42 (body 0) silent) =
        (ask 0x42 (body 0) silent).answered (req 0x42 (body 0)) [] .noEvent [] ∧
      (after .pinEnter (ask 0x42 (body 1) silent)).cl.transmit = [⟨0xC2, 7, .wrongPin, []⟩] := by decide +kernel

/-- Guarded, with a wrong PIN CLEAR waiting. -/
def mistyped (attempts lockout : Nat) (frozen : Bool) : State :=
  ask 0x41 (pinField [9, 9, 9, 9]) { guarded with pc := { guarded.pc with
    frozen := frozen
    record := { guarded.pc.record with attempts := attempts, lockout := lockout } } }

/-- A fourth and a fifth wrong attempt, one in a lockout, and one while frozen. -/
theorem witness_WrongPinsAreCountedAndLockOut :
    (mistyped 3 0 false).PinBearing .pinClear (req 0x41 (pinField [9, 9, 9, 9])) [9, 9, 9, 9] ∧
      (mistyped 5 15 false).PinBearing .pinClear (req 0x41 (pinField [9, 9, 9, 9])) [9, 9, 9, 9] ∧
      ({ mistyped 3 0 true with pc := { (mistyped 3 0 true).pc with frozen := false } } : State).PinBearing
        .pinClear (req 0x41 (pinField [9, 9, 9, 9])) [9, 9, 9, 9] ∧
      (mistyped 3 0 true).Serves (req 0x41 (pinField [9, 9, 9, 9])) [] ∧
      (mistyped 3 0 false).pinState = .armed ∧ (mistyped 4 0 false).pinState = .armed ∧
      (mistyped 5 15 false).pinState = .lockedOut ∧
      ¬(mistyped 4 0 false).pc.record.Accepts true [9, 9, 9, 9] := by
  refine ⟨⟨by decide, .inr (.inl ⟨rfl, rfl, rfl, rfl⟩)⟩, ⟨by decide, .inr (.inl ⟨rfl, rfl, rfl, rfl⟩)⟩,
    ⟨by decide, .inr (.inl ⟨rfl, rfl, rfl, rfl⟩)⟩, ?_⟩
  decide +kernel

theorem witness_MasterPinresetAndGroupTakeEffect :
    (hand 0x50 [1, 8, 1, 2, 3, 4, 5, 6, 7, 9] live).Hands 0x50 [1, 8, 1, 2, 3, 4, 5, 6, 7, 9] ∧
      (hand 0x50 [0, 3, 1, 2, 3] live).Hands 0x50 [0, 3, 1, 2, 3] ∧ (hand 0x50 [0] live).Hands 0x50 [0] ∧
      (hand 0x51 [] guarded).Hands 0x51 [] ∧ (hand 0x45 [0, 5] live).Hands 0x45 [0, 5] ∧
      (hand 0x45 [5] live).Hands 0x45 [5] := by decide +kernel

theorem witness_FeedPortTakesBytesByItsMode :
    let s (m : PortMode) (high : Bool) (buffered : Nat) (timer : Bool) : State := { live with hf := {
      live.hf with
        setup := { FeedSetup.initial with mode := m }, fstbHigh := high, handshake := timer
        buffer := List.replicate buffered (.byte 0) } }
    (s .strobe true 511 false).hf.byteCount < 512 ∧ 512 ≤ (s .strobe true 512 false).hf.byteCount ∧
      (s .leading true 511 false).fackHigh = false ∧ (s .leading true 512 false).fackHigh = true ∧
      (s .trailing true 0 false).fackHigh = false ∧ (s .trailing false 0 true).hf.handshake = true ∧
      (s .trailing false 0 true).phase = .running := by decide +kernel

/-- A whole TIME packet in the buffer, read to its last byte; its CRC is the model's own here, so that the
CRC clause is met on the matching side, and with another byte on the other. -/
theorem witness_AssemblerReadsCandidates :
    let head : List Byte := [0x9C, 0x10, 0, 0, 0, 0, 0, 5, 0x4E, 0x84, 0x01, 0x19, 0x31]
    let sum := crc (head.drop 1)
    let packet := head ++ [sum.extractLsb' 8 8, sum.extractLsb' 0 8]
    let s : State := { live with hf := { live.hf with buffer := packet.map .byte, assembler := .check 14 } }
    s.phase = .running ∧ s.hf.buffer = packet.map .byte ++ [] ∧ packet.length = 10 + 5 ∧
      (packet.getD 7 0).toNat = 5 ∧
      crc ((packet.drop 1).take 12) = packet.getD 13 0 ++ packet.getD 14 0 ∧
      AddressedHere (packet.getD 1 0) (packet.getD 2 0) 0 s.hf.setup.group s.unitAddress ∧
      crc ((packet.drop 1).take 12) ≠ (0 : Byte) ++ (0 : Byte) := by decide +kernel

theorem witness_FeedSetupAndSilenceTakeEffect :
    (ask 0x50 [2, 1, 1] live).Serves (req 0x50 [2, 1, 1]) [] ∧
      (ask 0x50 [3, 0, 0] live).Serves (req 0x50 [3, 0, 0]) [] ∧
      (ask 0x50 [0, 2, 0] live).Serves (req 0x50 [0, 2, 0]) [] ∧
      ({ live with hf := { live.hf with silence := true } } : State).hf.silence = true ∧
      live.hf.silence = false ∧ live.phase = .running := by decide

end Sys2Proof.Tests
end

/-! PROOF. The packet assembler: what a command does to the item the assembler comes to, what a candidate's
bytes are where a run of bytes stands at the buffer's oldest end, and from these O59. -/

namespace Sys2Proof.Machine

/-! ### The item the assembler comes to -/

theorem HeadendFeed.nextItem_of_handing {h : HeadendFeed} (ha : h.assembler = .handing) :
    h.nextItem = none := by
  simp only [nextItem, ha]

theorem HeadendFeed.nextItem_of_hunt {h : HeadendFeed} (ha : h.assembler = .hunt) :
    h.nextItem = h.buffer.head? := by
  simp only [nextItem, ha, Assembler.readCount, List.head?_eq_getElem?]

/-- The assembler is inside a candidate and has read `n` of its bytes. -/
def Assembler.Reading (a : Assembler) (n : Nat) : Prop := a = .header n ∨ a = .body n ∨ a = .check n

theorem Assembler.Reading.readCount_eq {a : Assembler} {n : Nat} (ha : a.Reading n) : a.readCount = n := by
  obtain rfl | rfl | rfl := ha <;> rfl

theorem HeadendFeed.nextItem_of_reading {h : HeadendFeed} {n : Nat} (ha : h.assembler.Reading n) :
    h.nextItem = h.buffer[n]? := by
  obtain ha | ha | ha := ha <;> simp only [nextItem, ha, Assembler.readCount]

/-! ### The two commands by that item -/

section
variable {s : State}

/-- A byte is for ASSEMBLER_BYTE_READ alone. -/
theorem exec_assembler_of_byte (hs : s.phase = .running) {b : Byte} (hi : s.hf.nextItem = some (.byte b)) :
    exec .assemblerByteRead s = .next { s with hf := s.hf.readByte s.unitAddress b } ∧
      exec .assemblerGapMark s = .next s := by
  change execAssemblerByteRead s = _ ∧ execAssemblerGapMark s = _
  simp only [execAssemblerByteRead, execAssemblerGapMark, hs, hi, if_true, and_self]

/-- A gap mark is for ASSEMBLER_GAP_MARK alone. -/
theorem exec_assembler_of_gap (hs : s.phase = .running) (hi : s.hf.nextItem = some .gap) :
    exec .assemblerByteRead s = .next s ∧
      exec .assemblerGapMark s = .next { s with hf := s.hf.abandon } := by
  change execAssemblerByteRead s = _ ∧ execAssemblerGapMark s = _
  simp only [execAssemblerByteRead, execAssemblerGapMark, hs, hi, if_true, and_self]

/-- With no item to come to, neither command does anything (R173). -/
theorem exec_assembler_of_none (hi : s.hf.nextItem = none) :
    exec .assemblerByteRead s = .next s ∧ exec .assemblerGapMark s = .next s := by
  change execAssemblerByteRead s = _ ∧ execAssemblerGapMark s = _
  simp only [execAssemblerByteRead, execAssemblerGapMark, hi, ite_self, and_self]

end

/-! ### What the read of a byte does, state by state -/

section
variable {h : HeadendFeed} {unit n : Nat} {b : Byte}

theorem HeadendFeed.abandon_of_hunt (ha : h.assembler = .hunt) :
    h.abandon = { h with buffer := h.buffer.drop 1, assembler := .hunt } := by
  simp only [abandon, ha, Assembler.readCount]

theorem HeadendFeed.abandon_of_reading (ha : h.assembler.Reading n) :
    h.abandon = { h with buffer := h.buffer.drop (n + 1), assembler := .hunt } := by
  rw [abandon, ha.readCount_eq]

theorem HeadendFeed.readByte_sync (ha : h.assembler = .hunt) :
    h.readByte unit 0x9C = { h with assembler := .header 1 } := by
  simp only [readByte, ha, if_true]

theorem HeadendFeed.readByte_stray (ha : h.assembler = .hunt) (hb : b ≠ 0x9C) :
    h.readByte unit b = { h with buffer := h.buffer.drop 1, assembler := .hunt } := by
  simp only [readByte, ha, if_neg hb]

theorem HeadendFeed.readByte_header (ha : h.assembler = .header n) (hn : n < 7) :
    h.readByte unit b = { h with assembler := .header (n + 1) } := by
  simp only [readByte, ha, if_pos hn]

/-- Byte 7 alone is judged in HEADER, as the length (R174). -/
theorem HeadendFeed.readByte_length (ha : h.assembler = .header 7) :
    h.readByte unit b =
      if 232 < b.toNat then { h with buffer := h.buffer.drop 1, assembler := .hunt }
      else if b.toNat = 0 then { h with assembler := .check 8 } else { h with assembler := .body 8 } := by
  have hzero : b = 0 ↔ b.toNat = 0 := BitVec.toNat_inj.symm
  simp only [readByte, ha, lt_irrefl, if_false, reject, hzero]

theorem HeadendFeed.readByte_body (ha : h.assembler = .body n) :
    h.readByte unit b =
      { h with assembler := if n + 1 < 8 + h.bodyLength then .body (n + 1) else .check (n + 1) } := by
  simp only [readByte, ha]
  split <;> rfl

theorem HeadendFeed.readByte_check (ha : h.assembler = .check n) :
    h.readByte unit b =
      if n + 1 < 10 + h.bodyLength then { h with assembler := .check (n + 1) } else h.judge unit := by
  simp only [readByte, ha]

end

/-! ### A run of bytes at the buffer's oldest end -/

section
variable {h : HeadendFeed} {packet : List Byte} {more : List FeedItem}

/-- The candidate's bytes are those of the run that stands at the oldest end. -/
theorem HeadendFeed.candidate_of_buffer (hb : h.buffer = packet.map .byte ++ more) {n : Nat}
    (hn : n ≤ packet.length) : h.candidate n = packet.take n := by
  have htake : h.buffer.take n = (packet.take n).map .byte := by
    rw [hb, List.take_append_of_le_length (by simpa using hn), List.map_take]
  rw [candidate, htake, List.filterMap_map]
  exact List.filterMap_some

theorem HeadendFeed.bodyLength_of_buffer (hb : h.buffer = packet.map .byte ++ more)
    (hn : 8 ≤ packet.length) : h.bodyLength = (packet.getD 7 0).toNat := by
  rw [bodyLength, candidate_of_buffer hb hn, List.getD_eq_getElem?_getD, List.getD_eq_getElem?_getD,
    List.getElem?_take_of_lt (by decide)]

end

/-! ### The CRC and the address filter -/

/-- The received CRC's high byte comes first (R175). -/
theorem ofNat_beNat_pair (x y : Byte) : BitVec.ofNat 16 (beNat [x, y]) = x ++ y := by
  apply BitVec.eq_of_toNat_eq
  have hx := x.isLt
  have hy := y.isLt
  rw [BitVec.toNat_append, ← Nat.shiftLeft_add_eq_or_of_lt hy, Nat.shiftLeft_eq, BitVec.toNat_ofNat]
  simp only [beNat, List.foldl_cons, List.foldl_nil]
  omega

/-- A packet's last two bytes. -/
theorem drop_eq_getD_pair {packet : List Byte} {k : Nat} (hk : packet.length = k + 2) :
    packet.drop k = [packet.getD k 0, packet.getD (k + 1) 0] := by
  rw [List.drop_eq_getElem_cons (by omega), List.drop_eq_getElem_cons (by omega),
    List.drop_eq_nil_of_le (by omega), List.getD_eq_getElem _ _ (by omega),
    List.getD_eq_getElem _ _ (by omega)]

theorem crcMatches_iff {packet : List Byte} {len : Nat} (hl : packet.length = 10 + len) :
    crcMatches packet = true ↔
      crc ((packet.drop 1).take (7 + len)) = packet.getD (8 + len) 0 ++ packet.getD (9 + len) 0 := by
  have hbody : packet.length - 3 = 7 + len := by omega
  have hsum : packet.length - 2 = 8 + len := by omega
  have hpair : packet.drop (8 + len) = [packet.getD (8 + len) 0, packet.getD (9 + len) 0] := by
    rw [drop_eq_getD_pair (by omega), show 8 + len + 1 = 9 + len by omega]
  rw [crcMatches, hbody, hsum, hpair, ofNat_beNat_pair, beq_iff_eq]

/-- R179 test 4, for the modes that pass test 1; the model's test takes every other mode for unit. -/
theorem addressMatches_iff {mode : Byte} {address group unit : Nat}
    (hm : mode = 0 ∨ mode = 1 ∨ mode = 2) :
    addressMatches mode address group unit = true ↔
      (mode = 1 → group ≠ 65535 ∧ address % 65536 = group) ∧ (mode = 2 → address = unit) := by
  obtain rfl | rfl | rfl := hm <;> simp [addressMatches]

/-- The kind table's modes for a kind (section 9.3). -/
theorem mem_allowedModes_iff (kind mode : Byte) :
    (∃ modes, allowedModes kind = some modes ∧ mode ∈ modes) ↔
      (kind = 0x10 ∧ mode = 0) ∨ ((kind = 0x20 ∨ kind = 0x30) ∧ (mode = 0 ∨ mode = 1)) ∨
        ((kind = 0x40 ∨ kind = 0x41) ∧ (mode = 1 ∨ mode = 2)) ∨
        (kind ∈ ([0x42, 0x43, 0x44, 0x45, 0x50, 0x51] : List Byte) ∧ mode = 2) := by
  unfold allowedModes
  split_ifs with htime hboth hentitle hunit
  · subst htime; simp
  · obtain rfl | rfl := hboth <;> simp
  · obtain rfl | rfl := hentitle <;> simp
  · obtain rfl | rfl | rfl | rfl | rfl | rfl := hunit <;> simp
  · simp only [List.mem_cons, List.not_mem_nil, or_false, htime, hboth, hentitle, hunit, false_and,
      exists_false]

theorem admits_iff (packet : List Byte) (group unit : Nat) :
    admits packet group unit = true ↔
      AddressedHere (packet.getD 1 0) (packet.getD 2 0) (beNat ((packet.drop 3).take 4)) group unit := by
  have htable := mem_allowedModes_iff (packet.getD 1 0) (packet.getD 2 0)
  unfold admits AddressedHere
  rw [← htable]
  cases hk : allowedModes (packet.getD 1 0) with
  | none => simp
  | some modes =>
    have hmode : packet.getD 2 0 ∈ modes →
        packet.getD 2 0 = 0 ∨ packet.getD 2 0 = 1 ∨ packet.getD 2 0 = 2 := by
      intro hmem
      have := htable.1 ⟨modes, hk, hmem⟩
      tauto
    simp only [Option.some.injEq, exists_eq_left', Bool.and_eq_true, List.contains_iff_mem]
    exact and_congr_right fun hmem => addressMatches_iff (hmode hmem)

/-! ### The judgement of a whole candidate (R175, R179) -/

section
variable {h : HeadendFeed} {packet : List Byte} {more : List FeedItem} {len unit : Nat}

theorem HeadendFeed.judge_of_buffer (hb : h.buffer = packet.map .byte ++ more)
    (hl : packet.length = 10 + len) (hlen : h.bodyLength = len) :
    h.judge unit =
      if crc ((packet.drop 1).take (7 + len)) = packet.getD (8 + len) 0 ++ packet.getD (9 + len) 0 then
        if AddressedHere (packet.getD 1 0) (packet.getD 2 0) (beNat ((packet.drop 3).take 4))
            h.setup.group unit then
          { h with assembler := .handing, silence := true }
        else { h with buffer := h.buffer.drop (10 + len), assembler := .hunt, silence := true }
      else { h with buffer := h.buffer.drop 1, assembler := .hunt } := by
  have hwhole : h.candidate (10 + len) = packet := by
    rw [candidate_of_buffer hb hl.ge, ← hl, List.take_length]
  have hgone : ({ h with silence := true } : HeadendFeed).dropPacket =
      { h with buffer := h.buffer.drop (10 + len), assembler := .hunt, silence := true } := by
    rw [← hlen]; rfl
  simp only [judge, reject, hlen, hwhole, hgone, crcMatches_iff hl, admits_iff]

end

/-! ### O59, by the assembler's state -/

/-- Settles O59, by the assembler's state and the item it comes to. -/
theorem assemblerReadsCandidates : Obligations.AssemblerReadsCandidates := by
  intro s hs goes drops read atMark
  have hread {b : Byte} (hi : s.hf.nextItem = some (.byte b)) :
      read = .next { s with hf := s.hf.readByte s.unitAddress b } := (exec_assembler_of_byte hs hi).1
  have hmark (hi : s.hf.nextItem = some .gap) : atMark = .next { s with hf := s.hf.abandon } :=
    (exec_assembler_of_gap hs hi).2
  refine ⟨fun ha => exec_assembler_of_none (HeadendFeed.nextItem_of_handing ha), fun ha => ?hunt,
    fun n ha => ?candidate⟩
  case hunt =>
    rw [← HeadendFeed.nextItem_of_hunt ha]
    refine ⟨exec_assembler_of_none, fun hi => ⟨(exec_assembler_of_gap hs hi).1, ?mark⟩,
      fun b hi => ⟨(exec_assembler_of_byte hs hi).2, ?sync, fun hb => ?stray⟩⟩
    case mark => rw [hmark hi, HeadendFeed.abandon_of_hunt ha]
    case sync => rintro rfl; rw [hread hi, HeadendFeed.readByte_sync ha]
    case stray => rw [hread hi, HeadendFeed.readByte_stray ha hb]
  case candidate =>
    rw [← HeadendFeed.nextItem_of_reading ha]
    refine ⟨exec_assembler_of_none, fun hi => ⟨(exec_assembler_of_gap hs hi).1, ?mark⟩,
      fun b hi => ⟨(exec_assembler_of_byte hs hi).2, fun hh => ⟨fun hn => ?header, ?length⟩,
        fun packet more hb h8 _ => ⟨fun hbody => ?body, fun hcheck => ?check⟩⟩⟩
    case mark => rw [hmark hi, HeadendFeed.abandon_of_reading ha]
    case header => rw [hread hi, HeadendFeed.readByte_header hh hn]
    case length =>
      rintro rfl
      rw [hread hi, HeadendFeed.readByte_length hh]
      refine ⟨fun hover => ?_, fun hzero => ?_, fun hone hmax => ?_⟩
      · rw [if_pos hover]
      · rw [if_neg (by omega), if_pos hzero]
      · rw [if_neg (by omega), if_neg (by omega)]
    case body =>
      rw [hread hi, HeadendFeed.readByte_body hbody, HeadendFeed.bodyLength_of_buffer hb h8]
      exact ⟨fun hlt => by rw [if_pos hlt], fun hge => by rw [if_neg (by omega)]⟩
    case check =>
      have hlen := HeadendFeed.bodyLength_of_buffer hb h8
      rw [hread hi, HeadendFeed.readByte_check hcheck, hlen]
      refine ⟨fun hlt => by rw [if_pos hlt], fun hlast hl => ?_⟩
      rw [if_neg (by omega), HeadendFeed.judge_of_buffer hb hl hlen]
      refine ⟨fun hne => by rw [if_neg hne], fun heq => ?_⟩
      rw [if_pos heq]
      exact ⟨fun hhere => by rw [if_pos hhere], fun hnot => by rw [if_neg hnot]⟩

end Sys2Proof.Machine

/-! PROOF. The frame parser and the completion of a frame: what CHARACTER_RECEIVED and GAP_TIMER_EXPIRY do while
the link works, how a byte moves the parser, where a frame goes that a byte completes, and from these O23 and
O24. -/

namespace Sys2Proof.Machine

/-! ### The two commands while the link works -/

theorem State.linkAlive_iff {s : State} : s.linkAlive = true ↔ s.phase = .running ∨ s.phase = .loading := by
  rw [linkAlive, Bool.or_eq_true, beq_iff_eq, beq_iff_eq, or_comm]

theorem exec_characterReceived_of_linkAlive {s : State} (hs : s.linkAlive = true) (ch : Character) :
    exec (.characterReceived ch) s =
      .next { s with cl := s.cl.receive (s.phase == .loading) ch } := by
  change execCharacterReceived ch s = _
  rw [execCharacterReceived, if_pos hs]

theorem exec_gapTimerExpiry_of_linkAlive {s : State} (hs : s.linkAlive = true) :
    exec .gapTimerExpiry s = .next { s with cl := { s.cl with parser := .idle } } := by
  change execGapTimerExpiry s = _
  rw [execGapTimerExpiry, if_pos hs]

/-! ### How a byte moves the parser (R187, R188) -/

section
variable {len : Nat} {k g b : Byte} {got : List Byte}

theorem Parser.feed_idle : feed .idle b = (if b = 0x7E then .length else .idle, none) := by
  simp only [feed]
  split <;> rfl

theorem Parser.feed_length :
    feed .length b = (if b.toNat ≤ 250 then .kind b.toNat else .idle, none) := by
  simp only [feed]
  split <;> rfl

theorem Parser.feed_kind : feed (.kind len) b = (.tag len b, none) := rfl

theorem Parser.feed_tag (hlen : 0 < len) : feed (.tag len k) b = (.body len k b [], none) := by
  simp only [feed, if_neg hlen.ne']

theorem Parser.feed_body (hlen : got.length + 1 < len) :
    feed (.body len k g got) b = (.body len k g (got ++ [b]), none) := by
  simp only [feed, if_neg hlen.not_ge]

/-- The tag completes a frame without a body. -/
theorem Parser.feed_lastTag : feed (.tag 0 k) b = (.idle, some ⟨k, b, []⟩) := rfl

/-- The last body byte completes a frame. -/
theorem Parser.feed_lastBody (hlen : len = got.length + 1) :
    feed (.body len k g got) b = (.idle, some ⟨k, g, got ++ [b]⟩) := by
  simp only [feed, if_pos hlen.le]

end

/-! ### Where a completed frame goes (R189) -/

section
variable {c : ControlLink} {loading : Bool} {r : Request}

theorem ControlLink.completeFrame_queued (hl : loading = false) (hq : c.queue.length < 4) :
    c.completeFrame loading r = { c with queue := c.queue ++ [r] } := by
  rw [completeFrame, if_neg (by simpa [hl] using hq)]

theorem ControlLink.completeFrame_busy (hfull : loading = true ∨ 4 ≤ c.queue.length)
    (ht : c.transmit.length < 8) :
    c.completeFrame loading r =
      { c with transmit := c.transmit ++ [⟨r.kind ||| 0x80, r.tag, .busy, []⟩] } := by
  rw [completeFrame, if_pos (by simpa using hfull), if_pos ht, replyKind]

theorem ControlLink.completeFrame_discarded (hfull : loading = true ∨ 4 ≤ c.queue.length)
    (ht : 8 ≤ c.transmit.length) : c.completeFrame loading r = c := by
  rw [completeFrame, if_pos (by simpa using hfull), if_neg ht.not_gt]

end

/-! ### A byte on LRXD, by what the parser makes of it -/

section
variable {s : State} {b : Byte}

/-- A byte that completes no frame moves the parser alone. -/
theorem exec_characterReceived_of_partial (hs : s.linkAlive = true) {p : Parser}
    (hf : s.cl.parser.feed b = (p, none)) :
    exec (.characterReceived (.byte b)) s = .next { s with cl := { s.cl with parser := p } } := by
  simp only [exec_characterReceived_of_linkAlive hs, ControlLink.receive, hf]

/-- A byte that completes a frame returns the parser to IDLE, and the link is as the frame's completion leaves
it. -/
theorem exec_characterReceived_of_complete (hs : s.linkAlive = true) {r : Request} {c : ControlLink}
    (hf : s.cl.parser.feed b = (.idle, some r))
    (hc : ({ s.cl with parser := .idle } : ControlLink).completeFrame (s.phase == .loading) r = c) :
    exec (.characterReceived (.byte b)) s = .next { s with cl := c } := by
  simp only [exec_characterReceived_of_linkAlive hs, ControlLink.receive, hf, hc]

end

/-! ### O23 and O24 -/

/-- Settles O23, by the parser's state. -/
theorem parserTakesCharactersAndDiscards : Obligations.ParserTakesCharactersAndDiscards := by
  intro s hs goes
  have halive : s.linkAlive = true := State.linkAlive_iff.2 hs
  have hmoves {b : Byte} {p q : Parser} (hp : s.cl.parser = p) (hf : p.feed b = (q, none)) :
      exec (.characterReceived (.byte b)) s = goes q :=
    exec_characterReceived_of_partial halive (hp ▸ hf)
  refine ⟨exec_characterReceived_of_linkAlive halive .framingError,
    exec_gapTimerExpiry_of_linkAlive halive, fun b =>
      ⟨fun hp => ?idle, fun hp => ?length, fun len hp => ?kind, fun len k hp hlen => ?tag,
        fun len k g got hp hlen => ?body⟩⟩
  case idle => exact hmoves hp Parser.feed_idle
  case length => exact hmoves hp Parser.feed_length
  case kind => exact hmoves hp Parser.feed_kind
  case tag => exact hmoves hp (Parser.feed_tag hlen)
  case body => exact hmoves hp (Parser.feed_body hlen)

/-- Settles O24: the frame is complete at its tag or at its last body byte, and goes where R189 sends it. -/
theorem completedFramesAreQueuedOrBusy : Obligations.CompletedFramesAreQueuedOrBusy := by
  intro s b r hs hlast
  have hfeed : s.cl.parser.feed b = (.idle, some r) := by
    obtain ⟨k, hp, rfl⟩ | ⟨len, k, g, got, hp, hlen, rfl⟩ := hlast
    · rw [hp, Parser.feed_lastTag]
    · rw [hp, Parser.feed_lastBody hlen]
  have hgoes {c : ControlLink} := exec_characterReceived_of_complete (c := c) (State.linkAlive_iff.2 hs) hfeed
  have hloading : s.phase = .loading → (s.phase == .loading) = true := beq_iff_eq.2
  refine ⟨fun hrun hq => ?queued, fun hfull ht => ?busy, fun hfull ht => ?discarded⟩
  case queued =>
    have hrunning : (s.phase == .loading) = false := by rw [hrun]; rfl
    exact hgoes (ControlLink.completeFrame_queued hrunning hq)
  case busy => exact hgoes (ControlLink.completeFrame_busy (hfull.imp_left hloading) ht)
  case discarded => exact hgoes (ControlLink.completeFrame_discarded (hfull.imp_left hloading) ht)

end Sys2Proof.Machine

/-! PROOF. What the close of an event and the start of a write leave as it was, field by field; and from these
what each may change. -/

namespace Sys2Proof.Machine

/-! ### Frames -/

/-- The start of a write leaves all but the engine and the dirty set (R208). -/
@[simp] theorem State.startWrite_frame (s : State) :
    s.startWrite.phase = s.phase ∧ s.startWrite.cl = s.cl ∧ s.startWrite.hf = s.hf ∧ s.startWrite.tb = s.tb ∧
      s.startWrite.cm = s.cm ∧ s.startWrite.tp = s.tp ∧ s.startWrite.ou = s.ou ∧ s.startWrite.pg = s.pg ∧
      s.startWrite.ep = s.ep ∧ s.startWrite.pc = s.pc ∧ s.startWrite.ae = s.ae ∧ s.startWrite.pins = s.pins ∧
      s.startWrite.pending = s.pending ∧ s.startWrite.ss.records = s.ss.records := by
  rw [s.startWrite_rest]
  exact ⟨rfl, rfl, rfl, rfl, rfl, rfl, rfl, rfl, rfl, rfl, rfl, rfl, rfl, rfl⟩

/-- The fields in which the states agree that differ by the close of an event (R158, R208). -/
structure State.Alike (s t : State) : Prop where
  phase : t.phase = s.phase
  hf : t.hf = s.hf
  tb : t.tb = s.tb
  cm : t.cm = s.cm
  tp : t.tp = s.tp
  ou : t.ou = s.ou
  pg : t.pg = s.pg
  ep : t.ep = s.ep
  pending : t.pending = s.pending
  parser : t.cl.parser = s.cl.parser
  queue : t.cl.queue = s.cl.queue
  transmit : t.cl.transmit = s.cl.transmit
  stopped : t.cl.stopped = s.cl.stopped
  mask : t.cl.mask = s.cl.mask
  cause : t.cl.cause = s.cl.cause
  profiles : t.pc.profiles = s.pc.profiles
  bindings : t.pc.bindings = s.pc.bindings
  record : t.pc.record = s.pc.record
  frozen : t.pc.frozen = s.pc.frozen
  records : t.ss.records = s.ss.records

theorem State.Closes.alike {s t : State} (h : s.Closes t) : s.Alike t := by
  rw [h.1]
  exact ⟨rfl, rfl, rfl, rfl, rfl, rfl, rfl, rfl, rfl, rfl, rfl, rfl, rfl, rfl, rfl, rfl, rfl, rfl, rfl, rfl⟩

theorem State.Evaluates.alike {s t : State} (h : s.Evaluates t) : s.Alike t := by
  rw [h.rest]
  exact ⟨rfl, rfl, rfl, rfl, rfl, rfl, rfl, rfl, rfl, rfl, rfl, rfl, rfl, rfl, rfl, rfl, rfl, rfl, rfl, rfl⟩

@[simp] theorem State.report_frame (os : List OutputId) (s : State) :
    (s.report os).phase = s.phase ∧ (s.report os).hf = s.hf ∧ (s.report os).tb = s.tb ∧
      (s.report os).cm = s.cm ∧ (s.report os).tp = s.tp ∧ (s.report os).ou = s.ou ∧ (s.report os).pg = s.pg ∧
      (s.report os).ep = s.ep ∧ (s.report os).pending = s.pending ∧
      (s.report os).cl.parser = s.cl.parser ∧ (s.report os).cl.queue = s.cl.queue ∧
      (s.report os).cl.transmit = s.cl.transmit ∧ (s.report os).cl.stopped = s.cl.stopped ∧
      (s.report os).cl.mask = s.cl.mask ∧ (s.report os).cl.cause = s.cl.cause ∧
      (s.report os).pc.profiles = s.pc.profiles ∧ (s.report os).pc.bindings = s.pc.bindings ∧
      (s.report os).pc.record = s.pc.record ∧ (s.report os).pc.frozen = s.pc.frozen ∧
      (s.report os).ss.records = s.ss.records := by
  obtain ⟨h⟩ := (s.report_closes os).alike
  refine ⟨?_, ?_, ?_, ?_, ?_, ?_, ?_, ?_, ?_, ?_, ?_, ?_, ?_, ?_, ?_, ?_, ?_, ?_, ?_, ?_⟩ <;> assumption

@[simp] theorem State.finish_frame (old : State) (os : List OutputId) (s : State) :
    (State.finish old os s).phase = s.phase ∧ (State.finish old os s).hf = s.hf ∧
      (State.finish old os s).tb = s.tb ∧ (State.finish old os s).cm = s.cm ∧
      (State.finish old os s).tp = s.tp ∧ (State.finish old os s).ou = s.ou ∧
      (State.finish old os s).pg = s.pg ∧ (State.finish old os s).ep = s.ep ∧
      (State.finish old os s).pending = s.pending ∧
      (State.finish old os s).cl.parser = s.cl.parser ∧ (State.finish old os s).cl.queue = s.cl.queue ∧
      (State.finish old os s).cl.transmit = s.cl.transmit ∧ (State.finish old os s).cl.stopped = s.cl.stopped ∧
      (State.finish old os s).cl.mask = s.cl.mask ∧ (State.finish old os s).cl.cause = s.cl.cause ∧
      (State.finish old os s).pc.profiles = s.pc.profiles ∧ (State.finish old os s).pc.bindings = s.pc.bindings ∧
      (State.finish old os s).pc.record = s.pc.record ∧ (State.finish old os s).pc.frozen = s.pc.frozen ∧
      (State.finish old os s).ss.records = s.ss.records := by
  obtain ⟨h⟩ := (State.finish_closes old os s).alike
  refine ⟨?_, ?_, ?_, ?_, ?_, ?_, ?_, ?_, ?_, ?_, ?_, ?_, ?_, ?_, ?_, ?_, ?_, ?_, ?_, ?_⟩ <;> assumption

end Sys2Proof.Machine

/-! PROOF. All that a command can do, said once: what the serving of a request makes of the state, what the taking
of a packet does, how a tuner event moves a tuner, and the commands that put blocks back. Each law that every
step keeps is a case split over these. -/

namespace Sys2Proof.Machine

/-! ### The effects of requests -/

/-- The state after a PIN check that a request has passed: nothing was judged, or an accepted PIN has cleared the
attempts (R125, R126). -/
def State.Passed (s x : State) : Prop := x = s ∨ (s.pinState ≠ .lockedOut ∧ x = s.acceptPin)

/-- What serving a request of row `c` makes of the state, the request being off the queue and its reply not yet
in the list, and the status of the reply (R190, R191). -/
inductive Serving : Instr → State → State → Status → Prop where
  | answers (c : Instr) (s : State) (st : Status) : Serving c s s st
  | restart (s : State) : Serving .restart s { s with cl := { s.cl with stopped := true } } .ok
  | mask (s : State) (v : BitVec 12) : Serving .mask s { s with cl := { s.cl with mask := v } } .ok
  | take (s : State) (n : Notice) : Serving .take s { s with cl := s.cl.clearLatch n } .ok
  | wake (s : State) (asleep : s.awake = false) :
      Serving .wake s (State.finish s allOutputs s.wakeAll) .accepted
  | standby (s : State) (awake : s.awake = true) :
      Serving .standby s (State.finish s allOutputs s.sleepAll) .ok
  | select (c : Instr) (s : State) (o : OutputId) (ch : Nat) (e : MapEntry) (x : State)
      (row : c = .select ∨ c = .step) (awake : s.awake = true) (mem : e ∈ s.cm.committed.entries)
      (resolves : e.channel = ch) (served : s.allocate o e.carrier e.slot = some x) :
      Serving c s (State.finish s [o] (x.setChannel o (some ch))) .accepted
  | tunerSetup (s : State) (v : Nat) (low : 30000 ≤ v) (high : v ≤ 60000) (asleep : s.awake = false) :
      Serving .tunerSetup s (s.setIf v) .ok
  | wrongPin (c : Instr) (s : State) (restart : c ≠ .restart)
      (judged : s.pinState = .armed ∨ (s.pinState = .unset ∧ ∃ o : OutputId, s.ae[o].decision.isParental = true)) :
      Serving c s s.countWrong .wrongPin
  | firstPin (s : State) (new : List Nat) (formed : newPinOk new = true) (thawed : s.pc.frozen = false)
      (unset : s.pinState = .unset) :
      Serving .pinSet s
        ((s.setPinRecord { s.pc.record with pin := some new, attempts := 0 }).report s.activeOutputs) .ok
  | newPin (s : State) (new : List Nat) (formed : newPinOk new = true) (thawed : s.pc.frozen = false)
      (armed : s.pinState = .armed) :
      Serving .pinSet s ((s.setPinRecord { s.pc.record with pin := some new, attempts := 0 }).report []) .ok
  | pinClear (s : State) (thawed : s.pc.frozen = false) (armed : s.pinState = .armed) :
      Serving .pinClear s (s.clearPin.report s.activeOutputs) .ok
  | masterClear (s : State) (thawed : s.pc.frozen = false) (armed : s.pinState = .armed) :
      Serving .pinClear s (s.masterClear.report s.activeOutputs) .ok
  | pinEnter (s : State) (o : OutputId) (sc : Scope) (p : Pass) (awake : s.awake = true)
      (blocked : s.ae[o].decision.isParental = true) (gives : s.passFor o sc = some p)
      (judged : s.pinState ≠ .lockedOut) :
      Serving .pinEnter s ((s.acceptPin.setPass o (some p)).report [o]) .ok
  | freeze (s : State) : Serving .freeze s { s with pc := { s.pc with frozen := true } } .ok
  | profileSet (s x : State) (p : ProfileId) (v : Profile) (thawed : s.pc.frozen = false) (passed : s.Passed x) :
      Serving .profileSet s (x.setProfile p v) .ok
  | bind (s x : State) (o : OutputId) (p : ProfileId) (thawed : s.pc.frozen = false) (passed : s.Passed x) :
      Serving .bind s (x.bindOutput o p) .ok
  | feedSetup (s : State) (m : PortMode) (st ak : Polarity) (edge : Bool) :
      Serving .feedSetup s
        ((({ s with hf := s.hf.setUp m st ak edge } : State).markDirty .feedSetup).startWrite) .ok
  | buyRefused (s x : State) (st : Status) (passed : s.Passed x) : Serving .buy s (x.report []) st
  | buy (s x : State) (service n : Nat) (e : GuideEvent) (passed : s.Passed x)
      (fresh : s.ep.recordFor service e.eventId = none) (room : s.ep.log.length < 32)
      (numbered : s.ep.seq.next ≠ 4294967295) :
      Serving .buy s (x.acceptBuy service n e) .accepted

/-! ### The effects of packets -/

/-- What the taking of a packet of row `c` makes of the state, the packet being off the buffer (R175, R180). -/
inductive Taking : Instr → State → State → Prop where
  | ignored (c : Instr) (s : State) : Taking c s s
  | time (s : State) (c : WallClock) (day : c.day < 65536) (second : c.second < 86400) :
      Taking .time s (s.takeTime c)
  | map (s : State) (g : RawSegment) (version : g.version < 256) (count : g.count ≤ 16)
      (number : g.number < g.count) (entries : g.entries.length ≤ 16) : Taking .map s (s.takeSegment g)
  | guide (s : State) (g : RawGuide) (service : 1 ≤ g.service ∧ g.service ≤ 999)
      (fits : ∀ e ∈ g.events, e.Fits) : Taking .guide s (s.takeGuide g)
  | entitlements (c : Instr) (s : State) (row : c ∈ ([.grant, .revoke, .credit, .unit] : List Instr))
      (e : Entitlements) : Taking c s (s.takeEntitlements e)
  | purack (s : State) (n : Nat) : Taking .purack s (s.takePurack n)
  | group (s : State) (g : Nat) :
      Taking .group s ((({ s with hf := { s.hf with setup := { s.hf.setup with group := g } } } :
        State).markDirty .feedSetup).startWrite)
  | master (s : State) (level : OverrideLevel) (digits : Option (List Nat))
      (formed : ∀ d ∈ digits, (4 ≤ d.length ∧ d.length ≤ 8) ∧ ∀ x ∈ d, x ≤ 9) :
      Taking .master s ((({ s with pc := { s.pc with record := { s.pc.record with
        level := level, master := digits } } } : State).markDirty .pin).startWrite)
  | pinreset (s : State) : Taking .pinreset s s.pinReset

/-! ### The moves of a tuner (sections 2.3 and 2.4) -/

/-- How a tuner event moves a tuner's record, its carrier and divisor standing (R24 to R28). -/
inductive Tuner.Moves : Tuner → Tuner → Prop where
  | lock (x : Tuner) (h : x.state = .settling) : Moves x { x with state := .measuring }
  | unlock (x : Tuner) (h : x.state = .measuring) : Moves x { x with state := .settling }
  | gateLock (x : Tuner) (c : IfCount) (h : x.state = .measuring) (range : c.inRange = true) :
      Moves x { x with lastCount := some c, state := .locked }

/-- How a tuner event that latches TUNER_FAULT moves a tuner's record (R25, R28, R29). -/
inductive Tuner.Faults : Tuner → Tuner → Prop where
  | settle (x : Tuner) (h : x.state = .settling) :
      Faults x { x with state := .failed, reason := some .noLock }
  | lost (x : Tuner) (h : x.state = .locked) : Faults x { x with state := .settling, corrections := 0 }
  | gate (x : Tuner) (c : IfCount) (r : FailReason) (h : x.state = .measuring) (range : c.inRange = true) :
      Faults x { x with lastCount := some c, state := .failed, reason := some r }

/-- How a tuner event that loads a divisor moves a tuner's record (R27, R30). -/
inductive Tuner.Loads (ifKHz : Nat) : Tuner → Tuner → Prop where
  | correct (x : Tuner) (c : IfCount) (k : Int) (h : x.state = .measuring) (range : c.inRange = true)
      (corrections : x.corrections < 3) (low : -32 ≤ k) (high : k ≤ 32) :
      Loads ifKHz x { x with lastCount := some c, state := .settling, offset := k,
                             corrections := x.corrections + 1 }
  | retry (x : Tuner) (c : Nat) (h : x.state = .failed) (carrier : x.carrier = some c) :
      Loads ifKHz x (acquisition c ifKHz)

/-! ### The effects of commands -/

/-- The rows of the packet table (R180). -/
def packetRows : List Instr :=
  [.time, .map, .guide, .grant, .revoke, .credit, .purack, .unit, .group, .master, .pinreset]

/-- All that command `c` can do to the state. -/
inductive Does : Instr → State → State → Prop where
  | nothing (c : Instr) (s : State) : Does c s s
  | powerOn (s : State) : Does .powerOn s (s.resetAll .powerOn .initial)
  | powerLoss (s : State) : Does .powerLoss s s.losePower
  | assertReset (s : State) (h : s.phase = .loading ∨ s.phase = .running) : Does .resetLineAssert s s.assertReset
  | releaseReset (s : State) (h : s.phase = .held) : Does .resetLineRelease s (s.resetAll .resetLine .initial)
  | loadEnd (s : State) (h : s.phase = .loading) : Does .loadEnd s s.endLoad
  | tick (s : State) (h : s.phase = .loading ∨ (s.phase = .running ∧ s.tb.tick.minuteDue = false)) :
      Does .secondExpiry s { s with tb := s.tb.tick }
  | minute (s : State) (h : s.phase = .running) (due : s.tb.tick.minuteDue = true) :
      Does .secondExpiry s ({ s with tb := s.tb.tick } : State).minuteEvent
  | receive (ch : Character) (s : State) (h : s.linkAlive = true) :
      Does (.characterReceived ch) s { s with cl := s.cl.receive (s.phase == .loading) ch }
  | gapExpiry (s : State) (h : s.linkAlive = true) :
      Does .gapTimerExpiry s { s with cl := { s.cl with parser := .idle } }
  | replySent (s : State) (r : Reply) (rest : List Reply) (h : s.linkAlive = true)
      (oldest : s.cl.transmit = r :: rest) (other : s.cl.isRestartReply r = false) :
      Does .replySent s (({ s with cl := { s.cl with transmit := rest } } : State).emit (.reply r.frame))
  | restart (s : State) (r : Reply) (rest : List Reply) (h : s.linkAlive = true)
      (oldest : s.cl.transmit = r :: rest) (own : s.cl.isRestartReply r = true) :
      Does .replySent s
        (({ s with cl := { s.cl with transmit := rest } } : State).emit (.reply r.frame)).restartPart
  | serves (c : Instr) (s x : State) (r : Request) (rest : List Request) (st : Status) (body : List Byte)
      (row : c ∈ requestRows) (h : s.Serves r rest) (kind : c = .restart → r.kind = 0x03)
      (does : Serving c { s with cl := { s.cl with queue := rest } } x st) :
      Does c s (x.pushReply ⟨r.kind ||| 0x80, r.tag, st, body⟩)
  | takes (c : Instr) (s x : State) (row : c ∈ packetRows)
      (h : s.phase = .running ∧ s.hf.assembler = .handing)
      (does : Taking c s.packetGone x) : Does c s x
  | edgeOpen (fd : Byte) (s : State) (inactive : s.hf.fstbActive = false) (h : s.phase = .running) :
      Does (.fstbActiveEdge fd) s
        (s.edge fd s.hf.fackActive { s.hf.driveFstb true with fackHeld := false })
  | edgeClosed (fd : Byte) (s : State) (h : s.phase ≠ .running) :
      Does (.fstbActiveEdge fd) s { s with hf := { s.hf.driveFstb true with fackHeld := false } }
  | releaseTakes (fd : Byte) (s : State) (h : s.phase = .running) (mode : s.hf.setup.mode = .trailing)
      (runs : s.hf.handshake = true) :
      Does (.fstbRelease fd) s
        { s with hf := ({ s.hf.driveFstb false with handshake := false, fackHeld := false } :
          HeadendFeed).join fd }
  | release (fd : Byte) (s : State) :
      Does (.fstbRelease fd) s
        { s with hf := { s.hf.driveFstb false with handshake := false, fackHeld := false } }
  | timeout (s : State) (h : HeadendFeed) (running : s.phase = .running)
      (feed : h = { s.hf with handshake := false } ∨ h = ({ s.hf with handshake := false } : HeadendFeed).markGap) :
      Does .handshakeTimeout s (s.portFault .timeout h)
  | byteRead (s : State) (b : Byte) (h : s.phase = .running) (item : s.hf.nextItem = some (.byte b)) :
      Does .assemblerByteRead s { s with hf := s.hf.readByte s.unitAddress b }
  | gapMark (s : State) (h : s.phase = .running) (item : s.hf.nextItem = some .gap) :
      Does .assemblerGapMark s { s with hf := s.hf.abandon }
  | silent (s : State) (h : s.phase = .running) :
      Does .silenceTimerExpiry s (({ s with hf := { s.hf with silence := false } } : State).latch .feedSilent)
  | tunerMoves (c : Instr) (s : State) (u : TunerId) (x : Tuner) (h : s.phase = .running)
      (row : c ∈ ([.lockIndication u, .unlockIndication u] : List Instr) ∨ ∃ n, c = .gateCompletion u n)
      (moves : s.tp.tuners[u].Moves x) : Does c s (State.finish s [] (s.setTuner u x))
  | tunerFaults (c : Instr) (s : State) (u : TunerId) (x : Tuner) (h : s.phase = .running)
      (row : c ∈ ([.settleExpiry u, .unlockIndication u] : List Instr) ∨ ∃ n, c = .gateCompletion u n)
      (faults : s.tp.tuners[u].Faults x) :
      Does c s (State.finish s [] ((s.setTuner u x).latch (.tunerFault u)))
  | tunerLoads (c : Instr) (s : State) (u : TunerId) (x : Tuner) (h : s.phase = .running)
      (row : c = .retryExpiry u ∨ ∃ n, c = .gateCompletion u n)
      (loads : s.tp.tuners[u].Loads s.tp.ifKHz x) : Does c s (State.finish s [] (s.loadDivisor u x))
  | writeDone (s : State) (c : Content) (h : s.ss.engine = some c) : Does .writeCompletion s (s.completeWrite c)

/-! ### The readers' guarantees -/

theorem cut_eq_some {n : Nat} {l a r : List Byte} : cut n l = some (a, r) ↔ a.length = n ∧ l = a ++ r := by
  unfold cut
  constructor
  · intro h
    split at h
    · cases h
    · cases h
      exact ⟨by simp; omega, (List.take_append_drop n l).symm⟩
  · rintro ⟨rfl, rfl⟩
    simp

/-- A big-endian run of `n` bytes is a number below 256 to the `n`. -/
theorem beNat_lt (l : List Byte) : beNat l < 256 ^ l.length := by
  induction l using List.reverseRecOn with
  | nil => simp [beNat]
  | append_singleton l b ih =>
    have hb := b.isLt
    simp only [beNat, List.foldl_append, List.foldl_cons, List.foldl_nil, List.length_append,
      List.length_singleton, pow_succ] at ih ⊢
    omega

theorem beNat_pair_lt (x y : Byte) : beNat [x, y] < 65536 := (beNat_lt [x, y]).trans_eq (by norm_num)

theorem readMany_length {α : Type} {item : List Byte → Option (α × List Byte)} {k : Nat} {l r : List Byte}
    {as : List α} (h : readMany item k l = some (as, r)) : as.length = k := by
  induction k generalizing l as with
  | zero => cases h; rfl
  | succ k ih =>
    simp only [readMany] at h
    split at h
    · cases h
    · rename_i a l' hitem
      obtain ⟨⟨as', r'⟩, hmany, hcons⟩ := Option.map_eq_some_iff.1 h
      cases hcons
      simp [ih hmany]

/-- What every item read satisfies holds of all the items of a run. -/
theorem readMany_forall {α : Type} {item : List Byte → Option (α × List Byte)} {P : α → Prop}
    (hitem : ∀ l a r, item l = some (a, r) → P a) {k : Nat} {l r : List Byte} {as : List α}
    (h : readMany item k l = some (as, r)) : ∀ a ∈ as, P a := by
  induction k generalizing l as with
  | zero => cases h; simp
  | succ k ih =>
    simp only [readMany] at h
    split at h
    · cases h
    · rename_i a l' hread
      obtain ⟨⟨as', r'⟩, hmany, hcons⟩ := Option.map_eq_some_iff.1 h
      cases hcons
      simp only [List.mem_cons, forall_eq_or_imp]
      exact ⟨hitem _ _ _ hread, ih hmany⟩

theorem readTime_fits {l : List Byte} {c : WallClock} (h : readTime l = some c) : c.day < 65536 := by
  unfold readTime at h
  split at h
  · cases h; exact beNat_pair_lt _ _
  · cases h

theorem readSegment_fits {l : List Byte} {g : RawSegment} (h : readSegment l = some g) :
    g.version < 256 ∧ g.count ≤ 16 ∧ g.number < g.count ∧ g.entries.length ≤ 16 := by
  unfold readSegment at h
  split at h
  · rename_i v n c k r
    split at h
    · cases h
    · rename_i hform
      obtain ⟨⟨es, r'⟩, hmany, hg⟩ := Option.map_eq_some_iff.1 h
      obtain rfl := hg
      dsimp only
      have hlen := readMany_length hmany
      exact ⟨v.isLt, by omega, by omega, by omega⟩
  · cases h

theorem readEvent_fits {l r : List Byte} {e : RawEvent} (h : readEvent l = some (e, r)) : e.Fits := by
  unfold readEvent at h
  split at h
  · rename_i n r₀
    obtain ⟨⟨title, rest⟩, hcut, he⟩ := Option.map_eq_some_iff.1 h
    cases he
    have htitle := (cut_eq_some.1 hcut).1
    exact ⟨beNat_pair_lt _ _, beNat_pair_lt _ _, beNat_pair_lt _ _, beNat_pair_lt _ _, BitVec.isLt _, BitVec.isLt _, BitVec.isLt _,
      by rw [htitle]; exact BitVec.isLt _⟩
  · cases h

theorem readGuide_fits {l : List Byte} {g : RawGuide} (h : readGuide l = some g) :
    (1 ≤ g.service ∧ g.service ≤ 999) ∧ ∀ e ∈ g.events, e.Fits := by
  unfold readGuide at h
  split at h
  · split at h
    · cases h
    · rename_i hform
      obtain ⟨⟨es, r'⟩, hmany, hg⟩ := Option.map_eq_some_iff.1 h
      obtain rfl := hg
      dsimp only
      exact ⟨⟨by omega, by omega⟩, readMany_forall (fun _ _ _ => readEvent_fits) hmany⟩
  · cases h

/-- A MASTER that is taken carries no digits, or 4 to 8 of them (R140). -/
theorem readMaster_fits {l : List Byte} {f : MasterFields} (h : readMaster l = some f) :
    ∀ d ∈ (if f.digits = [] then none else some f.digits),
      (4 ≤ d.length ∧ d.length ≤ 8) ∧ ∀ x ∈ d, x ≤ 9 := by
  unfold readMaster at h
  split at h
  · split at h
    · rename_i lv d r hlevel hcut
      split at h
      · cases h
      · rename_i hform
        cases h
        have hlen := (cut_eq_some.1 hcut).1
        simp only [not_or, not_and, not_lt, Bool.not_eq_true, List.any_eq_false, decide_eq_true_eq] at hform
        obtain ⟨hshort, hlong, hdigits⟩ := hform
        intro d' hd'
        simp only [List.map_eq_nil_iff] at hd'
        split at hd'
        · cases hd'
        · rename_i hne
          cases hd'
          have hpos : 0 < d.length := List.length_pos_of_ne_nil hne
          refine ⟨?_, ?_⟩
          · rw [List.length_map]; omega
          · simpa using hdigits
    · cases h
  · cases h

/-! ### From a command to what it does -/

/-- A request row serves a request of its kind, or does nothing. -/
theorem Does.of_serveIf {c : Instr} (row : c ∈ requestRows) {isKind : Byte → Bool}
    (kind : ∀ k, isKind k = true → c = .restart → k = 0x03) {f : List Byte → State → Served}
    (does : ∀ body s, Serving c s (f body s).state (f body s).status) (s : State) :
    Does c s (s.serveIf isKind f) := by
  unfold State.serveIf
  split
  · rename_i ready
    simp only [State.handlerReady, Bool.and_eq_true, beq_iff_eq, Bool.not_eq_true', decide_eq_true_eq] at ready
    obtain ⟨⟨running, stopped⟩, room⟩ := ready
    split
    · exact .nothing c s
    · rename_i r rest queued
      split
      · rename_i isk
        exact .serves c s _ r rest _ _ row ⟨running, stopped, room, queued⟩ (kind _ isk) (does _ _)
      · exact .nothing c s
  · exact .nothing c s

theorem Does.of_serve {c : Instr} (row : c ∈ requestRows) {k : Byte} (kind : c = .restart → k = 0x03)
    {α : Type} {read : List Byte → Option α} {f : α → State → Served}
    (does : ∀ a s, Serving c s (f a s).state (f a s).status) (s : State) : Does c s (s.serve k read f) := by
  refine .of_serveIf row (fun k' h hc => by rw [beq_iff_eq.1 h, kind hc]) (fun body s => ?_) s
  split
  · exact .answers c s _
  · exact does _ s

/-- A packet row takes the packet of its kind, or does nothing. -/
theorem Does.of_takePacket {c : Instr} (row : c ∈ packetRows) {kind : Byte} {f : List Byte → State → State}
    (does : ∀ body s, Taking c s (f body s)) (s : State) : Does c s (s.takePacket kind f) := by
  unfold State.takePacket
  split
  · rename_i hands
    simp only [State.hands, Bool.and_eq_true, beq_iff_eq] at hands
    exact .takes c s _ row hands.1 (does _ _)
  · exact .nothing c s

/-! ### The requests that check a PIN -/

/-- A PIN check passes, or its refusal is LOCKED_OUT or a counted WRONG_PIN (R128). -/
theorem State.pinCheck_cases (s : State) (d : List Nat) :
    (∃ x, s.pinCheck d = .ok x ∧ s.Passed x) ∨ s.pinCheck d = .error (answer .lockedOut s) ∨
      (s.pinState = .armed ∧ s.pinCheck d = .error (answer .wrongPin s.countWrong)) := by
  unfold State.pinCheck
  split
  · exact .inl ⟨s, rfl, .inl rfl⟩
  · exact .inr (.inl rfl)
  · rename_i armed
    have hopen : s.pinState ≠ .lockedOut := by rw [armed]; decide
    split
    · exact .inr (.inr ⟨armed, rfl⟩)
    · exact .inl ⟨_, rfl, .inr ⟨hopen, rfl⟩⟩
    · exact .inl ⟨_, rfl, .inr ⟨hopen, rfl⟩⟩

/-- What follows a PIN check is served on the state that passes it, and a refusal is an answer. -/
theorem Serving.of_pinCheck {c : Instr} (restart : c ≠ .restart) {s : State} {d : List Nat} {k : State → Served}
    (does : ∀ x, s.Passed x → Serving c s (k x).state (k x).status) {r : Served}
    (hr : r = match s.pinCheck d with
      | .error r => r
      | .ok x => k x) : Serving c s r.state r.status := by
  obtain ⟨x, hx, passed⟩ | hx | ⟨armed, hx⟩ := s.pinCheck_cases d <;> rw [hx] at hr <;> subst hr
  · exact does x passed
  · exact .answers c s _
  · exact .wrongPin c s restart (.inl armed)

theorem Serving.setPin {s : State} {f : PinSetFields} (formed : newPinOk f.new = true)
    (thawed : s.pc.frozen = false) : Serving .pinSet s (s.setPin f).state (s.setPin f).status := by
  unfold State.setPin
  dsimp only
  split
  · exact .firstPin s f.new formed thawed ‹_›
  · exact .answers _ s _
  · split
    · exact .wrongPin _ s (by decide) (.inl ‹_›)
    · exact .newPin s f.new formed thawed ‹_›
    · exact .newPin s f.new formed thawed ‹_›

theorem Serving.pinClear_of {s : State} {d : List Nat} (thawed : s.pc.frozen = false) :
    Serving .pinClear s (s.pinClear d).state (s.pinClear d).status := by
  unfold State.pinClear
  split
  · exact .answers _ s _
  · exact .answers _ s _
  · rename_i armed
    split
    · exact .wrongPin _ s (by decide) (.inl armed)
    · exact .pinClear s thawed armed
    · split
      · exact .pinClear s thawed armed
      · exact .masterClear s thawed armed

theorem State.armed_or_unset {s : State} (h : s.pinState ≠ .lockedOut) {P : Prop} (hp : P) :
    s.pinState = .armed ∨ (s.pinState = .unset ∧ P) := by
  cases hs : s.pinState
  · exact .inr ⟨rfl, hp⟩
  · exact .inl rfl
  · exact absurd hs h

theorem Serving.pinEnter_of {s : State} {o : OutputId} {sc : Scope} {d : List Nat} :
    Serving .pinEnter s (s.pinEnter o sc d).state (s.pinEnter o sc d).status := by
  unfold State.pinEnter
  split
  · exact .answers _ s _
  · rename_i awake
    split
    · exact .answers _ s _
    · rename_i blocked
      simp only [Bool.not_eq_true', Bool.not_eq_false] at awake blocked
      split
      · exact .answers _ s _
      · rename_i p gives
        split
        · exact .answers _ s _
        all_goals
          rename_i hstate
          have hopen : s.pinState ≠ .lockedOut := by rw [hstate]; decide
          have judged : _ ∨ (_ ∧ ∃ o : OutputId, s.ae[o].decision.isParental = true) :=
            State.armed_or_unset hopen ⟨o, blocked⟩
          split
          · exact .wrongPin _ s (by decide) judged
          · exact .pinEnter s o sc p awake blocked gives hopen
          · exact .pinEnter s o sc p awake blocked gives hopen

/-! ### Channel selection -/

theorem Serving.selectEntry {c : Instr} (row : c = .select ∨ c = .step) {s : State} {o : OutputId}
    {e : MapEntry} (awake : s.awake = true) (mem : e ∈ s.cm.committed.entries) :
    Serving c s (s.selectEntry o e).1 (s.selectEntry o e).2 := by
  unfold State.selectEntry
  split
  · exact .answers c s _
  · split
    · exact .answers c s _
    · exact .select c s o e.channel e _ row awake mem rfl ‹_›

theorem Lineup.mem_of_resolve {m : Lineup} {ch : Nat} {e : MapEntry} (h : m.resolve ch = some e) :
    e ∈ m.entries ∧ e.channel = ch :=
  ⟨List.mem_of_find?_eq_some h, by simpa using List.find?_some h⟩

theorem Lineup.mem_of_nextAbove {m : Lineup} {ch : Nat} {e : MapEntry} (h : m.nextAbove ch = some e) :
    e ∈ m.entries := by
  unfold Lineup.nextAbove at h
  split at h
  · cases h; exact List.mem_of_find?_eq_some ‹_›
  · exact List.mem_of_head? h

theorem Lineup.mem_of_nextBelow {m : Lineup} {ch : Nat} {e : MapEntry} (h : m.nextBelow ch = some e) :
    e ∈ m.entries := by
  unfold Lineup.nextBelow at h
  split at h
  · cases h; exact List.mem_reverse.1 (List.mem_of_find?_eq_some ‹_›)
  · exact List.mem_of_getLast? h

theorem Direction.mem_of_start {d : Direction} {m : Lineup} {ch : Option Nat} {e : MapEntry}
    (h : d.start m ch = some e) : e ∈ m.entries := by
  rcases ch with - | ch <;> rcases d with - | -
  · exact List.mem_of_head? h
  · exact List.mem_of_getLast? h
  · exact Lineup.mem_of_nextAbove h
  · exact Lineup.mem_of_nextBelow h

theorem mem_of_walk {ok : MapEntry → Bool} {d : Direction} {m : Lineup} {n : Nat} {first : Option MapEntry}
    {e : MapEntry} (hfirst : ∀ x ∈ first, x ∈ m.entries) (h : walk ok d m n first = some e) :
    e ∈ m.entries := by
  induction n generalizing first with
  | zero => cases first <;> cases h
  | succ n ih =>
    cases first with
    | none => cases h
    | some x =>
      rw [walk] at h
      split at h
      · exact hfirst e h
      · exact ih (fun y hy => Direction.mem_of_start (d := d) (ch := some x.channel) (by cases d <;> exact hy)) h

theorem State.mem_of_stepTarget {s : State} {o : OutputId} {d : Direction} {e : MapEntry}
    (h : s.stepTarget o d = some e) : e ∈ s.cm.committed.entries :=
  mem_of_walk (fun _ hx => Direction.mem_of_start hx) h

/-! ### BUY -/

theorem State.buyChecks_ok {s : State} {o : OutputId} {service n : Nat} {e : GuideEvent}
    (h : s.buyChecks o = .ok (service, n, e)) : s.ep.recordFor service e.eventId = none := by
  unfold State.buyChecks at h
  split at h
  · cases h
  · split_ifs at h
    split at h
    · cases h
    · cases h
    · unfold State.buyProgramme at h
      split_ifs at h
      split at h
      · cases h
      · cases h; assumption

theorem State.Passed.ep {s x : State} (h : s.Passed x) : x.ep = s.ep := by
  obtain rfl | ⟨-, rfl⟩ := h
  · rfl
  · unfold State.acceptPin State.setPinRecord
    dsimp only
    split <;> rfl

theorem Serving.buyRoom {s x : State} (passed : s.Passed x) {service n : Nat} {e : GuideEvent}
    (fresh : s.ep.recordFor service e.eventId = none) :
    Serving .buy s (x.buyRoom service n e).state (x.buyRoom service n e).status := by
  unfold State.buyRoom
  split
  · exact .buyRefused s x _ passed
  · rename_i hroom
    split
    · exact .buyRefused s x _ passed
    · rw [passed.ep] at hroom
      simp only [Config.logSize, Config.lastSequence, not_or, not_le] at hroom
      exact .buy s x service n e passed fresh hroom.1 hroom.2

theorem Serving.buy_of {s : State} {o : OutputId} {d : List Nat} :
    Serving .buy s (s.buy o d).state (s.buy o d).status := by
  unfold State.buy
  split
  · exact .answers _ s _
  · split
    · exact .answers _ s _
    · rename_i service n e checks
      have fresh := State.buyChecks_ok checks
      unfold State.buyPin
      split_ifs
      · exact .of_pinCheck (by decide) (k := fun x => x.buyRoom service n e)
          (fun x passed => .buyRoom passed fresh) rfl
      · exact .buyRoom (.inl rfl) fresh

/-! ### Tuner events -/

theorem gateReport_inRange (n : Nat) : (gateReport n).inRange = true := by
  unfold gateReport
  split
  · rfl
  · simpa only [IfCount.inRange, decide_eq_true_eq] using not_lt.1 ‹_›

theorem clampTo_range {b : Int} (hb : 0 ≤ b) (x : Int) : -b ≤ clampTo b x ∧ clampTo b x ≤ b := by
  unfold clampTo; omega

/-- A correction is called for only where fewer than three have been made, and stays within 32 steps (R27). -/
theorem classify_corrected {f : Nat} {off k : Int} {n : Nat} {c : IfCount}
    (h : classify f off n c = .corrected k) : n < 3 ∧ -32 ≤ k ∧ k ≤ 32 := by
  cases c with
  | overflow => cases h
  | count c =>
    simp only [classify] at h
    split_ifs at h with hc hd hn hk
    cases h
    exact ⟨not_le.1 hn, clampTo_range (by decide) _⟩

theorem Does.completeGate {s : State} {u : TunerId} {n : Nat} (running : s.phase = .running)
    (h : s.tp.tuners[u].state = .measuring) :
    Does (.gateCompletion u n) s (s.completeGate u (gateReport n)) := by
  have range := gateReport_inRange n
  unfold State.completeGate
  dsimp only
  split
  · exact .tunerMoves _ s u _ running (.inr ⟨n, rfl⟩) (.gateLock _ _ h range)
  · rename_i r _
    exact .tunerFaults _ s u _ running (.inr ⟨n, rfl⟩) (.gate _ _ r h range)
  · rename_i hc
    obtain ⟨hn, hlow, hhigh⟩ := classify_corrected hc
    exact .tunerLoads _ s u _ running (.inr ⟨n, rfl⟩) (.correct _ _ _ h range hn hlow hhigh)

/-! ### One lemma a command -/

theorem Serving.of_answer {c : Instr} {s x : State} {st : Status} (h : Serving c s x st) :
    Serving c s (answer st x).state (answer st x).status := h

theorem exec_powerOn_does (s : State) :
    ∃ t, exec .powerOn s = .next t ∧ Does .powerOn s t :=
  ⟨_, rfl, .powerOn s⟩

theorem exec_powerLoss_does (s : State) :
    ∃ t, exec .powerLoss s = .next t ∧ Does .powerLoss s t := by
  refine ⟨_, rfl, ?_⟩
  split_ifs
  · exact .nothing _ s
  · exact .powerLoss s

theorem exec_resetLineAssert_does (s : State) :
    ∃ t, exec .resetLineAssert s = .next t ∧ Does .resetLineAssert s t := by
  refine ⟨_, rfl, ?_⟩
  split
  · exact .assertReset s (.inl ‹_›)
  · exact .assertReset s (.inr ‹_›)
  · exact .nothing _ s
  · exact .nothing _ s

theorem exec_resetLineRelease_does (s : State) :
    ∃ t, exec .resetLineRelease s = .next t ∧ Does .resetLineRelease s t := by
  refine ⟨_, rfl, ?_⟩
  split_ifs with h
  · exact .releaseReset s h
  · exact .nothing _ s

theorem exec_loadEnd_does (s : State) :
    ∃ t, exec .loadEnd s = .next t ∧ Does .loadEnd s t := by
  refine ⟨_, rfl, ?_⟩
  split_ifs with h
  · exact .loadEnd s h
  · exact .nothing _ s

theorem exec_secondExpiry_does (s : State) :
    ∃ t, exec .secondExpiry s = .next t ∧ Does .secondExpiry s t := by
  refine ⟨_, rfl, ?_⟩
  split
  · exact .nothing _ s
  · exact .nothing _ s
  · exact .tick s (.inl ‹_›)
  · dsimp only
    split_ifs with due
    · exact .minute s ‹_› due
    · exact .tick s (.inr ⟨‹_›, by simpa using due⟩)

theorem exec_characterReceived_does (ch : Character) (s : State) :
    ∃ t, exec (.characterReceived ch) s = .next t ∧ Does (.characterReceived ch) s t := by
  refine ⟨_, rfl, ?_⟩
  split_ifs with h
  · exact .receive ch s h
  · exact .nothing _ s

theorem exec_gapTimerExpiry_does (s : State) :
    ∃ t, exec .gapTimerExpiry s = .next t ∧ Does .gapTimerExpiry s t := by
  refine ⟨_, rfl, ?_⟩
  split_ifs with h
  · exact .gapExpiry s h
  · exact .nothing _ s

theorem exec_replySent_does (s : State) :
    ∃ t, exec .replySent s = .next t ∧ Does .replySent s t := by
  refine ⟨_, rfl, ?_⟩
  split_ifs with h
  · unfold State.replySent
    split
    · exact .nothing _ s
    · rename_i r rest oldest
      dsimp only
      split_ifs with own
      · exact .restart s r rest h oldest own
      · exact .replySent s r rest h oldest (by simpa using own)
  · exact .nothing _ s

theorem exec_unknownRequest_does (s : State) :
    ∃ t, exec .unknownRequest s = .next t ∧ Does .unknownRequest s t := by
  exact ⟨_, rfl, .of_serveIf (by decide) (fun _ _ h => by cases h) (fun _ s => .answers _ s _) s⟩

theorem exec_ident_does (s : State) :
    ∃ t, exec .ident s = .next t ∧ Does .ident s t :=
  ⟨_, rfl, .of_serve (by decide) (by decide) (fun _ s => .answers _ s _) s⟩

theorem exec_status_does (s : State) :
    ∃ t, exec .status s = .next t ∧ Does .status s t :=
  ⟨_, rfl, .of_serve (by decide) (by decide) (fun _ s => .answers _ s _) s⟩

theorem exec_restart_does (s : State) :
    ∃ t, exec .restart s = .next t ∧ Does .restart s t :=
  ⟨_, rfl, .of_serve (by decide) (by decide) (fun _ s => .restart s) s⟩

theorem exec_mask_does (s : State) :
    ∃ t, exec .mask s = .next t ∧ Does .mask s t :=
  ⟨_, rfl, .of_serve (by decide) (by decide) (fun v s => .mask s _) s⟩

theorem exec_take_does (s : State) :
    ∃ t, exec .take s = .next t ∧ Does .take s t := by
  refine ⟨_, rfl, .of_serve (by decide) (by decide) (fun _ s => ?_) s⟩
  unfold State.takeNotice
  split
  · exact .answers _ s _
  · exact .take s _

theorem exec_wake_does (s : State) :
    ∃ t, exec .wake s = .next t ∧ Does .wake s t := by
  refine ⟨_, rfl, .of_serve (by decide) (by decide) (fun _ s => ?_) s⟩
  split_ifs with h
  · exact .answers _ s _
  · rw [Bool.not_eq_true] at h
    exact .of_answer (.wake s h)

theorem exec_standby_does (s : State) :
    ∃ t, exec .standby s = .next t ∧ Does .standby s t := by
  refine ⟨_, rfl, .of_serve (by decide) (by decide) (fun _ s => ?_) s⟩
  split_ifs with h
  · exact .of_answer (.standby s h)
  · exact .answers _ s _

theorem exec_select_does (s : State) :
    ∃ t, exec .select s = .next t ∧ Does .select s t := by
  refine ⟨_, rfl, .of_serve (by decide) (by decide) (fun f s => ?_) s⟩
  split_ifs
  · unfold State.selectChannel
    split
    · exact .answers _ s _
    · rename_i awake
      split
      · exact .answers _ s _
      · exact .selectEntry (.inl rfl) (by simpa using awake) (Lineup.mem_of_resolve ‹_›).1
  · exact .answers _ s _
  · exact .answers _ s _

theorem exec_step_does (s : State) :
    ∃ t, exec .step s = .next t ∧ Does .step s t := by
  refine ⟨_, rfl, .of_serve (by decide) (by decide) (fun f s => ?_) s⟩
  split_ifs
  · split
    · unfold State.stepChannel
      split
      · exact .answers _ s _
      · rename_i awake
        split
        · exact .answers _ s _
        · exact .selectEntry (.inr rfl) (by simpa using awake) (State.mem_of_stepTarget ‹_›)
    · exact .answers _ s _
  · exact .answers _ s _

theorem exec_queryOutput_does (s : State) :
    ∃ t, exec .queryOutput s = .next t ∧ Does .queryOutput s t := by
  refine ⟨_, rfl, .of_serve (by decide) (by decide) (fun f s => ?_) s⟩
  split_ifs <;> exact .answers _ s _

theorem exec_queryTuner_does (s : State) :
    ∃ t, exec .queryTuner s = .next t ∧ Does .queryTuner s t := by
  refine ⟨_, rfl, .of_serve (by decide) (by decide) (fun f s => ?_) s⟩
  split_ifs <;> exact .answers _ s _

theorem exec_tunerSetup_does (s : State) :
    ∃ t, exec .tunerSetup s = .next t ∧ Does .tunerSetup s t := by
  refine ⟨_, rfl, .of_serve (by decide) (by decide) (fun v s => ?_) s⟩
  split_ifs with range awake
  · exact .answers _ s _
  · exact .tunerSetup s v range.1 range.2 (by simpa using awake)
  · exact .answers _ s _

theorem exec_queryMap_does (s : State) :
    ∃ t, exec .queryMap s = .next t ∧ Does .queryMap s t := by
  refine ⟨_, rfl, .of_serve (by decide) (by decide) (fun f s => ?_) s⟩
  split_ifs <;> exact .answers _ s _

theorem exec_queryGuide_does (s : State) :
    ∃ t, exec .queryGuide s = .next t ∧ Does .queryGuide s t := by
  refine ⟨_, rfl, .of_serve (by decide) (by decide) (fun f s => ?_) s⟩
  split_ifs <;> exact .answers _ s _

theorem exec_queryTitle_does (s : State) :
    ∃ t, exec .queryTitle s = .next t ∧ Does .queryTitle s t := by
  refine ⟨_, rfl, .of_serve (by decide) (by decide) (fun f s => ?_) s⟩
  split_ifs
  · split <;> exact .answers _ s _
  · exact .answers _ s _

theorem exec_buy_does (s : State) :
    ∃ t, exec .buy s = .next t ∧ Does .buy s t := by
  refine ⟨_, rfl, .of_serve (by decide) (by decide) (fun f s => ?_) s⟩
  split_ifs
  · exact .buy_of
  · exact .answers _ s _
  · exact .answers _ s _

theorem exec_queryPurchases_does (s : State) :
    ∃ t, exec .queryPurchases s = .next t ∧ Does .queryPurchases s t := by
  refine ⟨_, rfl, .of_serve (by decide) (by decide) (fun f s => ?_) s⟩
  split_ifs <;> exact .answers _ s _

theorem exec_queryTiers_does (s : State) :
    ∃ t, exec .queryTiers s = .next t ∧ Does .queryTiers s t :=
  ⟨_, rfl, .of_serve (by decide) (by decide) (fun _ s => .answers _ s _) s⟩

theorem exec_pinSet_does (s : State) :
    ∃ t, exec .pinSet s = .next t ∧ Does .pinSet s t := by
  refine ⟨_, rfl, .of_serve (by decide) (by decide) (fun f s => ?_) s⟩
  split_ifs with formed frozen
  · exact .answers _ s _
  · rw [Bool.and_eq_true] at formed
    exact .setPin formed.1 (by simpa using frozen)
  · exact .answers _ s _

theorem exec_pinClear_does (s : State) :
    ∃ t, exec .pinClear s = .next t ∧ Does .pinClear s t := by
  refine ⟨_, rfl, .of_serve (by decide) (by decide) (fun f s => ?_) s⟩
  split_ifs with formed frozen
  · exact .answers _ s _
  · exact .pinClear_of (by simpa using frozen)
  · exact .answers _ s _

theorem exec_pinEnter_does (s : State) :
    ∃ t, exec .pinEnter s = .next t ∧ Does .pinEnter s t := by
  refine ⟨_, rfl, .of_serve (by decide) (by decide) (fun f s => ?_) s⟩
  split_ifs
  · split
    · exact .pinEnter_of
    · exact .answers _ s _
  · split <;> exact .answers _ s _
  · exact .answers _ s _

theorem exec_freeze_does (s : State) :
    ∃ t, exec .freeze s = .next t ∧ Does .freeze s t :=
  ⟨_, rfl, .of_serve (by decide) (by decide) (fun _ s => .freeze s) s⟩

theorem exec_profileSet_does (s : State) :
    ∃ t, exec .profileSet s = .next t ∧ Does .profileSet s t := by
  refine ⟨_, rfl, .of_serve (by decide) (by decide) (fun f s => ?_) s⟩
  split_ifs with number formed frozen
  · exact .answers _ s _
  · exact .of_pinCheck (by decide) (k := fun x => answer .ok (x.setProfile ⟨f.profile, number⟩ f.toProfile))
      (fun x passed => .profileSet s x _ _ (by simpa using frozen) passed) rfl
  · exact .answers _ s _
  · exact .answers _ s _

theorem exec_queryProfile_does (s : State) :
    ∃ t, exec .queryProfile s = .next t ∧ Does .queryProfile s t := by
  refine ⟨_, rfl, .of_serve (by decide) (by decide) (fun f s => ?_) s⟩
  split_ifs <;> exact .answers _ s _

theorem exec_bind_does (s : State) :
    ∃ t, exec .bind s = .next t ∧ Does .bind s t := by
  refine ⟨_, rfl, .of_serve (by decide) (by decide) (fun f s => ?_) s⟩
  split_ifs with number formed frozen
  · exact .answers _ s _
  · exact .of_pinCheck (by decide)
      (k := fun x => answer .ok (x.bindOutput ⟨f.first, number.1⟩ ⟨f.second, number.2⟩))
      (fun x passed => .bind s x _ _ (by simpa using frozen) passed) rfl
  · exact .answers _ s _
  · exact .answers _ s _

theorem exec_feedSetup_does (s : State) :
    ∃ t, exec .feedSetup s = .next t ∧ Does .feedSetup s t := by
  refine ⟨_, rfl, .of_serve (by decide) (by decide) (fun f s => ?_) s⟩
  split
  · exact .feedSetup s _ _ _ _
  · exact .answers _ s _

theorem exec_fstbActiveEdge_does (fd : Byte) (s : State) :
    ∃ t, exec (.fstbActiveEdge fd) s = .next t ∧ Does (.fstbActiveEdge fd) s t := by
  refine ⟨_, rfl, ?_⟩
  dsimp only
  split_ifs with active running
  · exact .nothing _ s
  · exact .edgeOpen fd s (by simpa using active) running
  · exact .edgeClosed fd s running

theorem exec_fstbRelease_does (fd : Byte) (s : State) :
    ∃ t, exec (.fstbRelease fd) s = .next t ∧ Does (.fstbRelease fd) s t := by
  refine ⟨_, rfl, ?_⟩
  dsimp only
  split_ifs with active takes
  · exact .releaseTakes fd s takes.1 takes.2.1 takes.2.2
  · exact .release fd s
  · exact .nothing _ s

theorem exec_handshakeTimeout_does (s : State) :
    ∃ t, exec .handshakeTimeout s = .next t ∧ Does .handshakeTimeout s t := by
  refine ⟨_, rfl, ?_⟩
  dsimp only
  split_ifs with runs
  · split
    · exact .timeout s _ runs.1 (.inr rfl)
    · exact .timeout s _ runs.1 (.inl rfl)
    · exact .timeout s _ runs.1 (.inl rfl)
  · exact .nothing _ s

theorem exec_assemblerByteRead_does (s : State) :
    ∃ t, exec .assemblerByteRead s = .next t ∧ Does .assemblerByteRead s t := by
  refine ⟨_, rfl, ?_⟩
  split_ifs with running
  · split
    · exact .byteRead s _ running ‹_›
    · exact .nothing _ s
    · exact .nothing _ s
  · exact .nothing _ s

theorem exec_assemblerGapMark_does (s : State) :
    ∃ t, exec .assemblerGapMark s = .next t ∧ Does .assemblerGapMark s t := by
  refine ⟨_, rfl, ?_⟩
  split_ifs with running
  · split
    · exact .gapMark s running ‹_›
    · exact .nothing _ s
    · exact .nothing _ s
  · exact .nothing _ s

theorem exec_silenceTimerExpiry_does (s : State) :
    ∃ t, exec .silenceTimerExpiry s = .next t ∧ Does .silenceTimerExpiry s t := by
  refine ⟨_, rfl, ?_⟩
  split_ifs with runs
  · exact .silent s runs.1
  · exact .nothing _ s

theorem exec_time_does (s : State) :
    ∃ t, exec .time s = .next t ∧ Does .time s t := by
  refine ⟨_, rfl, .of_takePacket (by decide) (fun body s => ?_) s⟩
  split
  · exact .ignored _ s
  · rename_i c read
    split_ifs with second
    · exact .time s c (readTime_fits read) second
    · exact .ignored _ s

theorem exec_map_does (s : State) :
    ∃ t, exec .map s = .next t ∧ Does .map s t := by
  refine ⟨_, rfl, .of_takePacket (by decide) (fun body s => ?_) s⟩
  split
  · exact .ignored _ s
  · rename_i g read
    obtain ⟨version, count, number, entries⟩ := readSegment_fits read
    exact .map s g version count number entries

theorem exec_guide_does (s : State) :
    ∃ t, exec .guide s = .next t ∧ Does .guide s t := by
  refine ⟨_, rfl, .of_takePacket (by decide) (fun body s => ?_) s⟩
  split
  · exact .ignored _ s
  · rename_i g read
    obtain ⟨service, fits⟩ := readGuide_fits read
    exact .guide s g service fits

theorem exec_grant_does (s : State) :
    ∃ t, exec .grant s = .next t ∧ Does .grant s t := by
  refine ⟨_, rfl, .of_takePacket (by decide) (fun body s => ?_) s⟩
  split
  · exact .ignored _ s
  · exact .entitlements _ s (by decide) _

theorem exec_revoke_does (s : State) :
    ∃ t, exec .revoke s = .next t ∧ Does .revoke s t := by
  refine ⟨_, rfl, .of_takePacket (by decide) (fun body s => ?_) s⟩
  split
  · exact .ignored _ s
  · exact .entitlements _ s (by decide) _

theorem exec_credit_does (s : State) :
    ∃ t, exec .credit s = .next t ∧ Does .credit s t := by
  refine ⟨_, rfl, .of_takePacket (by decide) (fun body s => ?_) s⟩
  split
  · exact .ignored _ s
  · exact .entitlements _ s (by decide) _

theorem exec_purack_does (s : State) :
    ∃ t, exec .purack s = .next t ∧ Does .purack s t := by
  refine ⟨_, rfl, .of_takePacket (by decide) (fun body s => ?_) s⟩
  split
  · exact .ignored _ s
  · exact .purack s _

theorem exec_unit_does (s : State) :
    ∃ t, exec .unit s = .next t ∧ Does .unit s t := by
  refine ⟨_, rfl, .of_takePacket (by decide) (fun body s => ?_) s⟩
  split
  · exact .ignored _ s
  · exact .entitlements _ s (by decide) _

theorem exec_group_does (s : State) :
    ∃ t, exec .group s = .next t ∧ Does .group s t := by
  refine ⟨_, rfl, .of_takePacket (by decide) (fun body s => ?_) s⟩
  split
  · exact .ignored _ s
  · exact .group s _

theorem exec_master_does (s : State) :
    ∃ t, exec .master s = .next t ∧ Does .master s t := by
  refine ⟨_, rfl, .of_takePacket (by decide) (fun body s => ?_) s⟩
  split
  · exact .ignored _ s
  · exact .master s _ _ (readMaster_fits ‹_›)

theorem exec_pinreset_does (s : State) :
    ∃ t, exec .pinreset s = .next t ∧ Does .pinreset s t :=
  ⟨_, rfl, .of_takePacket (by decide) (fun _ s => .pinreset s) s⟩

theorem exec_lockIndication_does (u : TunerId) (s : State) :
    ∃ t, exec (.lockIndication u) s = .next t ∧ Does (.lockIndication u) s t := by
  refine ⟨_, rfl, ?_⟩
  split_ifs with running
  · split
    · exact .tunerMoves _ s u _ running (.inl (by simp)) (.lock _ ‹_›)
    all_goals exact .nothing _ s
  · exact .nothing _ s

theorem exec_unlockIndication_does (u : TunerId) (s : State) :
    ∃ t, exec (.unlockIndication u) s = .next t ∧ Does (.unlockIndication u) s t := by
  refine ⟨_, rfl, ?_⟩
  split_ifs with running
  · split
    · exact .tunerMoves _ s u _ running (.inl (by simp)) (.unlock _ ‹_›)
    · exact .tunerFaults _ s u _ running (.inl (by simp)) (.lost _ ‹_›)
    all_goals exact .nothing _ s
  · exact .nothing _ s

theorem exec_settleExpiry_does (u : TunerId) (s : State) :
    ∃ t, exec (.settleExpiry u) s = .next t ∧ Does (.settleExpiry u) s t := by
  refine ⟨_, rfl, ?_⟩
  split_ifs with running
  · split
    · exact .tunerFaults _ s u _ running (.inl (by simp)) (.settle _ ‹_›)
    all_goals exact .nothing _ s
  · exact .nothing _ s

theorem exec_gateCompletion_does (u : TunerId) (n : Nat) (s : State) :
    ∃ t, exec (.gateCompletion u n) s = .next t ∧ Does (.gateCompletion u n) s t := by
  refine ⟨_, rfl, ?_⟩
  split_ifs with running
  · split
    · exact .completeGate running ‹_›
    all_goals exact .nothing _ s
  · exact .nothing _ s

theorem exec_retryExpiry_does (u : TunerId) (s : State) :
    ∃ t, exec (.retryExpiry u) s = .next t ∧ Does (.retryExpiry u) s t := by
  refine ⟨_, rfl, ?_⟩
  split_ifs with running
  · split
    · exact .tunerLoads _ s u _ running (.inl rfl) (.retry _ _ ‹_› ‹_›)
    · exact .nothing _ s
  · exact .nothing _ s

theorem exec_writeCompletion_does (s : State) :
    ∃ t, exec .writeCompletion s = .next t ∧ Does .writeCompletion s t := by
  refine ⟨_, rfl, ?_⟩
  split
  · exact .nothing _ s
  · exact .writeDone s _ ‹_›

/-- Every command answers next, and does one of the things that `Does` lists for it. -/
theorem exec_does (c : Instr) (s : State) : ∃ t, exec c s = .next t ∧ Does c s t := by
  cases c with
  | powerOn => exact exec_powerOn_does s
  | powerLoss => exact exec_powerLoss_does s
  | resetLineAssert => exact exec_resetLineAssert_does s
  | resetLineRelease => exact exec_resetLineRelease_does s
  | loadEnd => exact exec_loadEnd_does s
  | secondExpiry => exact exec_secondExpiry_does s
  | characterReceived ch => exact exec_characterReceived_does ch s
  | gapTimerExpiry => exact exec_gapTimerExpiry_does s
  | replySent => exact exec_replySent_does s
  | unknownRequest => exact exec_unknownRequest_does s
  | ident => exact exec_ident_does s
  | status => exact exec_status_does s
  | restart => exact exec_restart_does s
  | mask => exact exec_mask_does s
  | take => exact exec_take_does s
  | wake => exact exec_wake_does s
  | standby => exact exec_standby_does s
  | select => exact exec_select_does s
  | step => exact exec_step_does s
  | queryOutput => exact exec_queryOutput_does s
  | queryTuner => exact exec_queryTuner_does s
  | tunerSetup => exact exec_tunerSetup_does s
  | queryMap => exact exec_queryMap_does s
  | queryGuide => exact exec_queryGuide_does s
  | queryTitle => exact exec_queryTitle_does s
  | buy => exact exec_buy_does s
  | queryPurchases => exact exec_queryPurchases_does s
  | queryTiers => exact exec_queryTiers_does s
  | pinSet => exact exec_pinSet_does s
  | pinClear => exact exec_pinClear_does s
  | pinEnter => exact exec_pinEnter_does s
  | freeze => exact exec_freeze_does s
  | profileSet => exact exec_profileSet_does s
  | queryProfile => exact exec_queryProfile_does s
  | bind => exact exec_bind_does s
  | feedSetup => exact exec_feedSetup_does s
  | fstbActiveEdge fd => exact exec_fstbActiveEdge_does fd s
  | fstbRelease fd => exact exec_fstbRelease_does fd s
  | handshakeTimeout => exact exec_handshakeTimeout_does s
  | assemblerByteRead => exact exec_assemblerByteRead_does s
  | assemblerGapMark => exact exec_assemblerGapMark_does s
  | silenceTimerExpiry => exact exec_silenceTimerExpiry_does s
  | time => exact exec_time_does s
  | map => exact exec_map_does s
  | guide => exact exec_guide_does s
  | grant => exact exec_grant_does s
  | revoke => exact exec_revoke_does s
  | credit => exact exec_credit_does s
  | purack => exact exec_purack_does s
  | unit => exact exec_unit_does s
  | group => exact exec_group_does s
  | master => exact exec_master_does s
  | pinreset => exact exec_pinreset_does s
  | lockIndication u => exact exec_lockIndication_does u s
  | unlockIndication u => exact exec_unlockIndication_does u s
  | settleExpiry u => exact exec_settleExpiry_does u s
  | gateCompletion u n => exact exec_gateCompletion_does u n s
  | retryExpiry u => exact exec_retryExpiry_does u s
  | writeCompletion => exact exec_writeCompletion_does s

theorem does_of_exec {c : Instr} {s t : State} (h : exec c s = .next t) : Does c s t := by
  obtain ⟨x, hx, does⟩ := exec_does c s
  rw [hx] at h
  cases h
  exact does

/-- A step idles, or does what its command does with the rest of the queue waiting. -/
theorem step_does {s t : State} (h : step s = .next t) :
    t = s ∨ ∃ c rest, Does c { s with pending := rest } t := by
  unfold step at h
  split at h
  · cases h; exact .inl rfl
  · exact .inr ⟨_, _, does_of_exec h⟩

/-- A law that reads nothing of the waiting commands, and that every command keeps, every step keeps. -/
theorem step_keeps {P : State → Prop} (pending : ∀ (s : State) (rest : List Instr), P s → P { s with pending := rest })
    (does : ∀ (c : Instr) (s t : State), Does c s t → P s → P t) {s t : State} (hs : P s)
    (h : step s = .next t) : P t := by
  obtain rfl | ⟨c, rest, h⟩ := step_does h
  · exact hs
  · exact does c _ t h (pending s rest hs)

end Sys2Proof.Machine

/-! PROOF. What the operations on the pool, the PIN, the purchases and the minute leave as it was, and what the
engine of the store carries after an event. -/

namespace Sys2Proof.Machine

/-- A fold of moves that a reflexive and transitive relation admits is admitted. -/
theorem foldl_related {α β : Type} {R : β → β → Prop} (refl : ∀ s, R s s)
    (trans : ∀ {s t u}, R s t → R t u → R s u) {f : β → α → β} (step : ∀ s a, R s (f s a)) (l : List α)
    (s : β) : R s (l.foldl f s) := by
  induction l generalizing s with
  | nil => exact refl s
  | cons a l ih => exact trans (step s a) (ih (f s a))

/-! ### The pool -/

/-- What the arbiter may touch: outputs, tuners, passes, and on the pins divisor words alone. -/
structure State.Rewires (s t : State) : Prop where
  rest : t = { s with ou := t.ou, tp := { s.tp with tuners := t.tp.tuners }, pins := t.pins,
                      pc := { s.pc with passes := t.pc.passes } }
  pins : ∃ w, t.pins = { s.pins with wave := s.pins.wave ++ w } ∧ ∀ e ∈ w, ∃ u n, e = .divisor u n

theorem State.Rewires.refl (s : State) : s.Rewires s := ⟨rfl, [], by simp⟩

theorem State.Rewires.trans {s t u : State} (h : s.Rewires t) (k : t.Rewires u) : s.Rewires u := by
  obtain ⟨a, ha, hdiv⟩ := h.pins
  obtain ⟨b, hb, hdiv'⟩ := k.pins
  refine ⟨?_, a ++ b, by rw [hb, ha, List.append_assoc], ?_⟩
  · have e := k.rest
    rw [h.rest] at e
    exact e
  · simp only [List.mem_append]
    rintro e (he | he)
    · exact hdiv e he
    · exact hdiv' e he

theorem State.Rewires.foldl {α : Type} {f : State → α → State} (h : ∀ (s : State) (a : α), s.Rewires (f s a)) (l : List α)
    (s : State) : s.Rewires (l.foldl f s) :=
  foldl_related Rewires.refl Rewires.trans h l s

/-- What an allocation may touch: attachments, tuners, and on the pins divisor words alone. -/
structure State.Allots (s t : State) : Prop where
  rest : t = { s with ou := t.ou, tp := { s.tp with tuners := t.tp.tuners }, pins := t.pins }
  seats : ∀ o : OutputId, t.ou[o].mode = s.ou[o].mode ∧ t.ou[o].channel = s.ou[o].channel
  pins : ∃ w, t.pins = { s.pins with wave := s.pins.wave ++ w } ∧ ∀ e ∈ w, ∃ u n, e = .divisor u n

theorem State.Allots.refl (s : State) : s.Allots s := ⟨rfl, fun _ => ⟨rfl, rfl⟩, [], by simp⟩

theorem State.Allots.rewires {s t : State} (h : s.Allots t) : s.Rewires t := by
  refine ⟨?_, h.pins⟩
  have hpc : t.pc = s.pc := by rw [h.rest]
  rw [hpc]
  exact h.rest

theorem State.Allots.trans {s t u : State} (h : s.Allots t) (k : t.Allots u) : s.Allots u := by
  refine ⟨?_, fun o => ?_, (h.rewires.trans k.rewires).pins⟩
  · have e := k.rest
    rw [h.rest] at e
    exact e
  · obtain ⟨hmode, hchannel⟩ := h.seats o
    obtain ⟨kmode, kchannel⟩ := k.seats o
    exact ⟨kmode.trans hmode, kchannel.trans hchannel⟩

theorem State.Allots.foldl {α : Type} {f : State → α → State} (h : ∀ (s : State) (a : α), s.Allots (f s a)) (l : List α)
    (s : State) : s.Allots (l.foldl f s) :=
  foldl_related Allots.refl Allots.trans h l s

theorem State.attach_same (o : OutputId) (a : Attachment) (s : State) :
    (s.attach o a).ou[o] = { s.ou[o] with attachment := a } := Vector.getElem_set_self _

theorem State.attach_other {o p : OutputId} (h : p ≠ o) (a : Attachment) (s : State) :
    (s.attach o a).ou[p] = s.ou[p] := Vector.getElem_set_ne o.isLt p.isLt fun e => h (Fin.ext e.symm)

theorem State.attach_allots (o : OutputId) (a : Attachment) (s : State) : s.Allots (s.attach o a) := by
  refine ⟨rfl, fun p => ?_, [], by simp⟩
  by_cases hp : p = o
  · subst hp
    rw [State.attach_same]
    exact ⟨rfl, rfl⟩
  · rw [State.attach_other hp]
    exact ⟨rfl, rfl⟩

theorem State.setTuner_allots (u : TunerId) (x : Tuner) (s : State) : s.Allots (s.setTuner u x) :=
  ⟨rfl, fun _ => ⟨rfl, rfl⟩, [], by simp⟩

theorem State.loadDivisor_allots (u : TunerId) (x : Tuner) (s : State) : s.Allots (s.loadDivisor u x) := by
  unfold State.loadDivisor
  dsimp only
  split
  · exact s.setTuner_allots u x
  · exact (s.setTuner_allots u x).trans ⟨rfl, fun _ => ⟨rfl, rfl⟩, [_], rfl, by simp⟩

theorem State.attachWaiters_allots (u : TunerId) (c : Nat) (s : State) : s.Allots (s.attachWaiters u c) := by
  refine .foldl (fun s o => ?_) _ s
  split_ifs
  · split
    · split_ifs
      · exact s.attach_allots o _
      · exact .refl s
    · exact .refl s
  · exact .refl s

theorem State.place_allots (o : OutputId) (c : Nat) (sl : ServiceSlot) (ch : Choice) (s : State) :
    s.Allots (s.place o c sl ch) := by
  have start (u : TunerId) : s.Allots (((s.attach o (.tuner u sl)).acquire u c).attachWaiters u c) :=
    ((s.attach_allots o _).trans (loadDivisor_allots u _ _)).trans (attachWaiters_allots u c _)
  cases ch with
  | attach u => exact s.attach_allots o _
  | retune u => exact start u
  | start u => exact start u
  | none => exact .refl s

theorem State.serveWaiting_allots (s : State) : s.Allots s.serveWaiting := by
  refine .foldl (fun s o => ?_) _ s
  split_ifs
  · split
    · exact s.place_allots o _ _ _
    · exact .refl s
  · exact .refl s

theorem State.idleEmptied_allots (s : State) : s.Allots s.idleEmptied := by
  refine .foldl (fun a u => ?_) _ s
  split_ifs
  · exact a.setTuner_allots u _
  · exact .refl a

theorem State.release_allots (s : State) : s.Allots s.release := by
  unfold State.release
  split_ifs
  · exact s.idleEmptied_allots.trans (serveWaiting_allots _)
  · exact .refl s

theorem State.allocate_allots {o : OutputId} {c : Nat} {sl : ServiceSlot} {s t : State}
    (h : s.allocate o c sl = some t) : s.Allots t := by
  unfold State.allocate at h
  split at h
  · cases h
  · cases h
    exact (s.place_allots o c sl _).trans (release_allots _)

theorem State.allocateOrWait_allots (o : OutputId) (e : MapEntry) (s : State) :
    s.Allots (s.allocateOrWait o e) := by
  unfold State.allocateOrWait
  split
  · exact State.allocate_allots ‹_›
  · exact s.attach_allots o _

theorem State.detachSet_allots (os : List OutputId) (s : State) : s.Allots (s.detachSet os) :=
  (Allots.foldl (fun s o => s.attach_allots o _) os s).trans (release_allots _)

theorem State.releaseAll_allots (s : State) : s.Allots s.releaseAll := by
  unfold State.releaseAll
  exact (Allots.foldl (fun s o => s.attach_allots o _) allOutputs s).trans
    (Allots.foldl (fun s u => s.setTuner_allots u _) allTuners _)

theorem State.setOutput_rewires (o : OutputId) (x : Output) (s : State) : s.Rewires (s.setOutput o x) :=
  ⟨rfl, [], by simp⟩

theorem State.setPass_rewires (o : OutputId) (p : Option Pass) (s : State) : s.Rewires (s.setPass o p) :=
  ⟨rfl, [], by simp⟩

theorem State.endPasses_rewires (s : State) : s.Rewires s.endPasses := ⟨rfl, [], by simp [State.endPasses]⟩

theorem State.setChannel_rewires (o : OutputId) (ch : Option Nat) (s : State) : s.Rewires (s.setChannel o ch) :=
  (s.setOutput_rewires o _).trans (setPass_rewires o none _)

theorem State.setModes_rewires (m : Mode) (s : State) : s.Rewires (s.setModes m) :=
  .foldl (fun s o => s.setOutput_rewires o _) _ s

theorem State.wakeOutput_rewires (o : OutputId) (s : State) : s.Rewires (s.wakeOutput o) := by
  unfold State.wakeOutput
  split
  · exact .refl s
  · split
    · exact s.setChannel_rewires o none
    · exact (s.allocateOrWait_allots o _).rewires

theorem State.wakeAll_rewires (s : State) : s.Rewires s.wakeAll :=
  (s.setModes_rewires .active).trans (.foldl (fun s o => s.wakeOutput_rewires o) _ _)

theorem State.sleepAll_rewires (s : State) : s.Rewires s.sleepAll :=
  ((s.setModes_rewires .standby).trans (releaseAll_allots _).rewires).trans (endPasses_rewires _)

theorem State.vanish_rewires (o : OutputId) (s : State) : s.Rewires (s.vanish o) := by
  unfold State.vanish
  dsimp only
  split_ifs
  · exact (s.setChannel_rewires o none).trans (attach_allots o _ _).rewires
  · exact s.setChannel_rewires o none

theorem State.moveOutput_rewires (o : OutputId) (s : State) : s.Rewires (s.moveOutput o) := by
  unfold State.moveOutput
  split
  · exact (s.allocateOrWait_allots o _).rewires
  · exact .refl s

theorem State.reResolve_rewires (s : State) : s.Rewires s.reResolve :=
  (((Rewires.foldl (fun s o => s.vanish_rewires o) _ s).trans (detachSet_allots _ _).rewires).trans
    (.foldl (fun s o => s.moveOutput_rewires o) _ _)).trans (serveWaiting_allots _).rewires

/-- The fields in which two states agree that differ by moves of the arbiter. -/
theorem State.Rewires.frame {s t : State} (h : s.Rewires t) :
    t.phase = s.phase ∧ t.cl = s.cl ∧ t.hf = s.hf ∧ t.tb = s.tb ∧ t.cm = s.cm ∧ t.tp.ifKHz = s.tp.ifKHz ∧
      t.pg = s.pg ∧ t.ep = s.ep ∧ t.ae = s.ae ∧ t.ss = s.ss ∧ t.pending = s.pending ∧
      t.pc.profiles = s.pc.profiles ∧ t.pc.bindings = s.pc.bindings ∧ t.pc.record = s.pc.record ∧
      t.pc.frozen = s.pc.frozen := by
  rw [h.rest]
  exact ⟨rfl, rfl, rfl, rfl, rfl, rfl, rfl, rfl, rfl, rfl, rfl, rfl, rfl, rfl, rfl⟩

/-! ### The PIN -/

@[simp] theorem State.setPinRecord_frame (r : PinRecord) (s : State) :
    (s.setPinRecord r).phase = s.phase ∧ (s.setPinRecord r).cl = s.cl ∧ (s.setPinRecord r).hf = s.hf ∧
      (s.setPinRecord r).tb = s.tb ∧ (s.setPinRecord r).cm = s.cm ∧ (s.setPinRecord r).tp = s.tp ∧
      (s.setPinRecord r).ou = s.ou ∧ (s.setPinRecord r).pg = s.pg ∧ (s.setPinRecord r).ep = s.ep ∧
      (s.setPinRecord r).pc = { s.pc with record := r } ∧ (s.setPinRecord r).ae = s.ae ∧
      (s.setPinRecord r).pins = s.pins ∧ (s.setPinRecord r).pending = s.pending ∧
      (s.setPinRecord r).ss.records = s.ss.records ∧ (s.setPinRecord r).ss.engine = s.ss.engine := by
  unfold State.setPinRecord
  dsimp only
  split_ifs <;> exact ⟨rfl, rfl, rfl, rfl, rfl, rfl, rfl, rfl, rfl, rfl, rfl, rfl, rfl, rfl, rfl⟩

/-- A state that differs from `s` in its PIN record and its dirty set alone. -/
structure State.Repinned (s t : State) : Prop where
  rest : t = { s with pc := { s.pc with record := t.pc.record }, ss := { s.ss with dirty := t.ss.dirty } }

theorem State.setPinRecord_repinned (r : PinRecord) (s : State) : s.Repinned (s.setPinRecord r) := by
  unfold State.setPinRecord
  dsimp only
  split_ifs <;> exact ⟨rfl⟩

theorem State.Passed.repinned {s x : State} (h : s.Passed x) : s.Repinned x := by
  obtain rfl | ⟨-, rfl⟩ := h
  · exact ⟨rfl⟩
  · exact s.setPinRecord_repinned _

theorem State.Repinned.frame {s t : State} (h : s.Repinned t) :
    t.phase = s.phase ∧ t.cl = s.cl ∧ t.hf = s.hf ∧ t.tb = s.tb ∧ t.cm = s.cm ∧ t.tp = s.tp ∧ t.ou = s.ou ∧
      t.pg = s.pg ∧ t.ep = s.ep ∧ t.ae = s.ae ∧ t.pins = s.pins ∧ t.pending = s.pending ∧
      t.ss.records = s.ss.records ∧ t.ss.engine = s.ss.engine ∧ t.pc.profiles = s.pc.profiles ∧
      t.pc.bindings = s.pc.bindings ∧ t.pc.frozen = s.pc.frozen ∧ t.pc.passes = s.pc.passes := by
  rw [h.rest]
  exact ⟨rfl, rfl, rfl, rfl, rfl, rfl, rfl, rfl, rfl, rfl, rfl, rfl, rfl, rfl, rfl, rfl, rfl, rfl⟩

/-! ### Slots marked dirty -/

/-- A state that differs from `s` in its dirty set alone. -/
structure State.Dirties (s t : State) : Prop where
  rest : t = { s with ss := { s.ss with dirty := t.ss.dirty } }

theorem State.Dirties.refl (s : State) : s.Dirties s := ⟨rfl⟩

theorem State.Dirties.trans {s t u : State} (h : s.Dirties t) (k : t.Dirties u) : s.Dirties u := by
  have e := k.rest
  rw [h.rest] at e
  exact ⟨e⟩

theorem State.markSlots_dirties (ps : List Purchase) (s : State) : s.Dirties (s.markSlots ps) :=
  foldl_related Dirties.refl Dirties.trans (fun _ _ => ⟨rfl⟩) ps s

@[simp] theorem State.markSlots_frame (ps : List Purchase) (s : State) :
    (s.markSlots ps).phase = s.phase ∧ (s.markSlots ps).cl = s.cl ∧ (s.markSlots ps).hf = s.hf ∧
      (s.markSlots ps).tb = s.tb ∧ (s.markSlots ps).cm = s.cm ∧ (s.markSlots ps).tp = s.tp ∧
      (s.markSlots ps).ou = s.ou ∧ (s.markSlots ps).pg = s.pg ∧ (s.markSlots ps).ep = s.ep ∧
      (s.markSlots ps).pc = s.pc ∧ (s.markSlots ps).ae = s.ae ∧ (s.markSlots ps).pins = s.pins ∧
      (s.markSlots ps).pending = s.pending ∧ (s.markSlots ps).ss.records = s.ss.records ∧
      (s.markSlots ps).ss.engine = s.ss.engine := by
  rw [(s.markSlots_dirties ps).rest]
  exact ⟨rfl, rfl, rfl, rfl, rfl, rfl, rfl, rfl, rfl, rfl, rfl, rfl, rfl, rfl, rfl⟩

end Sys2Proof.Machine

/-! PROOF. Block by block, which commands change it; and what the write engine carries after a command. From these
O14, O16 and O17. -/

namespace Sys2Proof.Machine

/-! ### The effects, field by field -/

@[simp] theorem State.wakeAll_frame (s : State) :
    s.wakeAll.phase = s.phase ∧ s.wakeAll.cl = s.cl ∧ s.wakeAll.hf = s.hf ∧ s.wakeAll.tb = s.tb ∧
      s.wakeAll.cm = s.cm ∧ s.wakeAll.tp.ifKHz = s.tp.ifKHz ∧ s.wakeAll.pg = s.pg ∧ s.wakeAll.ep = s.ep ∧
      s.wakeAll.ae = s.ae ∧ s.wakeAll.ss = s.ss ∧ s.wakeAll.pending = s.pending ∧
      s.wakeAll.pc.profiles = s.pc.profiles ∧ s.wakeAll.pc.bindings = s.pc.bindings ∧
      s.wakeAll.pc.record = s.pc.record ∧ s.wakeAll.pc.frozen = s.pc.frozen := s.wakeAll_rewires.frame

@[simp] theorem State.sleepAll_frame (s : State) :
    s.sleepAll.phase = s.phase ∧ s.sleepAll.cl = s.cl ∧ s.sleepAll.hf = s.hf ∧ s.sleepAll.tb = s.tb ∧
      s.sleepAll.cm = s.cm ∧ s.sleepAll.tp.ifKHz = s.tp.ifKHz ∧ s.sleepAll.pg = s.pg ∧ s.sleepAll.ep = s.ep ∧
      s.sleepAll.ae = s.ae ∧ s.sleepAll.ss = s.ss ∧ s.sleepAll.pending = s.pending ∧
      s.sleepAll.pc.profiles = s.pc.profiles ∧ s.sleepAll.pc.bindings = s.pc.bindings ∧
      s.sleepAll.pc.record = s.pc.record ∧ s.sleepAll.pc.frozen = s.pc.frozen := s.sleepAll_rewires.frame

@[simp] theorem State.reResolve_frame (s : State) :
    s.reResolve.phase = s.phase ∧ s.reResolve.cl = s.cl ∧ s.reResolve.hf = s.hf ∧ s.reResolve.tb = s.tb ∧
      s.reResolve.cm = s.cm ∧ s.reResolve.tp.ifKHz = s.tp.ifKHz ∧ s.reResolve.pg = s.pg ∧
      s.reResolve.ep = s.ep ∧ s.reResolve.ae = s.ae ∧ s.reResolve.ss = s.ss ∧
      s.reResolve.pending = s.pending ∧ s.reResolve.pc.profiles = s.pc.profiles ∧
      s.reResolve.pc.bindings = s.pc.bindings ∧ s.reResolve.pc.record = s.pc.record ∧
      s.reResolve.pc.frozen = s.pc.frozen := s.reResolve_rewires.frame

@[simp] theorem State.loadDivisor_frame (u : TunerId) (x : Tuner) (s : State) :
    (s.loadDivisor u x).phase = s.phase ∧ (s.loadDivisor u x).cl = s.cl ∧ (s.loadDivisor u x).hf = s.hf ∧
      (s.loadDivisor u x).tb = s.tb ∧ (s.loadDivisor u x).cm = s.cm ∧
      (s.loadDivisor u x).tp.ifKHz = s.tp.ifKHz ∧ (s.loadDivisor u x).pg = s.pg ∧
      (s.loadDivisor u x).ep = s.ep ∧ (s.loadDivisor u x).ae = s.ae ∧ (s.loadDivisor u x).ss = s.ss ∧
      (s.loadDivisor u x).pending = s.pending ∧ (s.loadDivisor u x).pc.profiles = s.pc.profiles ∧
      (s.loadDivisor u x).pc.bindings = s.pc.bindings ∧ (s.loadDivisor u x).pc.record = s.pc.record ∧
      (s.loadDivisor u x).pc.frozen = s.pc.frozen := (s.loadDivisor_allots u x).rewires.frame

/-- All but the attempts, the lockout, and what the close of an event touches stands when a wrong PIN is counted
(R126). -/
@[simp] theorem State.countWrong_frame (s : State) :
    s.countWrong.phase = s.phase ∧ s.countWrong.hf = s.hf ∧ s.countWrong.tb = s.tb ∧ s.countWrong.cm = s.cm ∧
      s.countWrong.tp = s.tp ∧ s.countWrong.ou = s.ou ∧ s.countWrong.pg = s.pg ∧ s.countWrong.ep = s.ep ∧
      s.countWrong.pending = s.pending ∧ s.countWrong.pc.profiles = s.pc.profiles ∧
      s.countWrong.pc.bindings = s.pc.bindings ∧ s.countWrong.pc.frozen = s.pc.frozen ∧
      s.countWrong.pc.record.pin = s.pc.record.pin ∧ s.countWrong.ss.records = s.ss.records := by
  unfold State.countWrong
  dsimp only
  split_ifs <;> simp

theorem State.setIf_frame (n : Nat) (s : State) :
    s.setIf n = { s with tp := { s.tp with ifKHz := n }, ss := (s.setIf n).ss } ∧
      (s.setIf n).ss.records = s.ss.records := by
  unfold State.setIf
  split_ifs with h
  · subst h; exact ⟨rfl, rfl⟩
  · refine ⟨?_, by simp⟩
    rw [State.startWrite_rest]
    rfl

/-- No request changes the phase, the time, the map, the guide, the stored records or the waiting commands. -/
theorem Serving.frame {c : Instr} {s x : State} {st : Status} (h : Serving c s x st) :
    x.phase = s.phase ∧ x.tb = s.tb ∧ x.cm = s.cm ∧ x.pg = s.pg ∧ x.ss.records = s.ss.records ∧
      x.pending = s.pending := by
  cases h
  case select served =>
    obtain ⟨hp, -, -, htb, hcm, -, hpg, -, -, hss, hq, -⟩ := (State.allocate_allots served).rewires.frame
    simp [State.setChannel, hp, htb, hcm, hpg, hss, hq]
  case tunerSetup => rw [(State.setIf_frame _ s).1]; simp [(State.setIf_frame _ s).2]
  case profileSet passed =>
    obtain ⟨hp, -, -, htb, hcm, -, -, hpg, -, -, -, hq, hrec, -⟩ := passed.repinned.frame
    simp [State.setProfile, hp, htb, hcm, hpg, hrec, hq]
  case bind passed =>
    obtain ⟨hp, -, -, htb, hcm, -, -, hpg, -, -, -, hq, hrec, -⟩ := passed.repinned.frame
    unfold State.bindOutput
    split_ifs <;> simp [hp, htb, hcm, hpg, hrec, hq]
  case buyRefused passed =>
    obtain ⟨hp, -, -, htb, hcm, -, -, hpg, -, -, -, hq, hrec, -⟩ := passed.repinned.frame
    simp [hp, htb, hcm, hpg, hrec, hq]
  case buy passed _ _ _ =>
    obtain ⟨hp, -, -, htb, hcm, -, -, hpg, -, -, -, hq, hrec, -⟩ := passed.repinned.frame
    unfold State.acceptBuy
    dsimp only
    split_ifs <;> simp [hp, htb, hcm, hpg, hrec, hq]
  all_goals simp [State.acceptPin, State.clearPin, State.masterClear, State.endPasses]

@[simp] theorem PinRecord.minute_pin (r : PinRecord) : r.minute.pin = r.pin := by
  unfold PinRecord.minute
  split_ifs <;> rfl

/-- A minute event leaves the time, the map, the pool, the feed, the bindings and profiles, and the PIN (R62). -/
@[simp] theorem State.minuteEvent_frame (s : State) :
    s.minuteEvent.phase = s.phase ∧ s.minuteEvent.hf = s.hf ∧ s.minuteEvent.tb = s.tb ∧
      s.minuteEvent.cm = s.cm ∧ s.minuteEvent.tp = s.tp ∧ s.minuteEvent.ou = s.ou ∧
      s.minuteEvent.pg = s.pg.purge s.now ∧ s.minuteEvent.pending = s.pending ∧
      s.minuteEvent.ep = { s.ep with log := s.ep.log.filter fun p => !p.removable s.now } ∧
      s.minuteEvent.cl.parser = s.cl.parser ∧ s.minuteEvent.cl.queue = s.cl.queue ∧
      s.minuteEvent.cl.transmit = s.cl.transmit ∧ s.minuteEvent.cl.stopped = s.cl.stopped ∧
      s.minuteEvent.pc.profiles = s.pc.profiles ∧ s.minuteEvent.pc.bindings = s.pc.bindings ∧
      s.minuteEvent.pc.record = s.pc.record.minute ∧ s.minuteEvent.pc.frozen = s.pc.frozen ∧
      s.minuteEvent.ss.records = s.ss.records := by
  simp [State.minuteEvent, State.purchaseMinute, State.parentalMinute, State.now]

/-- TB takes a time, and raises a minute event, or none where the guide minute stands (R64, R65). -/
theorem State.takeTime_cases (c : WallClock) (s : State) :
    let set : State := { s with tb := { s.tb with clock := some c } }
    (∃ held, s.tb.clock = some held ∧ c.now = held.now ∧ s.takeTime c = set) ∨
      s.takeTime c = set.minuteEvent ∨ s.takeTime c = (set.latch .timeSet).minuteEvent := by
  unfold State.takeTime
  dsimp only
  split
  · exact .inr (.inr rfl)
  · split_ifs
    · exact .inl ⟨_, ‹_›, ‹_›, rfl⟩
    · exact .inr (.inr rfl)
    · exact .inr (.inl rfl)

@[simp] theorem State.takeTime_frame (c : WallClock) (s : State) :
    (s.takeTime c).phase = s.phase ∧ (s.takeTime c).hf = s.hf ∧
      (s.takeTime c).tb = { s.tb with clock := some c } ∧ (s.takeTime c).cm = s.cm ∧
      (s.takeTime c).tp = s.tp ∧ (s.takeTime c).ou = s.ou ∧ (s.takeTime c).pending = s.pending ∧
      (s.takeTime c).cl.parser = s.cl.parser ∧ (s.takeTime c).cl.queue = s.cl.queue ∧
      (s.takeTime c).cl.transmit = s.cl.transmit ∧ (s.takeTime c).cl.stopped = s.cl.stopped ∧
      (s.takeTime c).pc.profiles = s.pc.profiles ∧ (s.takeTime c).pc.bindings = s.pc.bindings ∧
      (s.takeTime c).pc.frozen = s.pc.frozen ∧
      (s.takeTime c).pc.record.pin = s.pc.record.pin ∧ (s.takeTime c).ss.records = s.ss.records := by
  obtain ⟨-, -, -, h⟩ | h | h := s.takeTime_cases c <;> rw [h] <;> simp [ControlLink.setLatch]

/-- A commit leaves all but the map, the pool with its outputs and passes, and what the close of an event touches
(R10, R54). -/
@[simp] theorem State.commitMap_frame (m : Lineup) (s : State) :
    (s.commitMap m).phase = s.phase ∧ (s.commitMap m).hf = s.hf ∧ (s.commitMap m).tb = s.tb ∧
      (s.commitMap m).cm = { committed := m, staging := none } ∧ (s.commitMap m).tp.ifKHz = s.tp.ifKHz ∧
      (s.commitMap m).pg = s.pg ∧ (s.commitMap m).ep = s.ep ∧ (s.commitMap m).pending = s.pending ∧
      (s.commitMap m).cl.parser = s.cl.parser ∧ (s.commitMap m).cl.queue = s.cl.queue ∧
      (s.commitMap m).cl.transmit = s.cl.transmit ∧ (s.commitMap m).cl.stopped = s.cl.stopped ∧
      (s.commitMap m).pc.profiles = s.pc.profiles ∧ (s.commitMap m).pc.bindings = s.pc.bindings ∧
      (s.commitMap m).pc.record = s.pc.record ∧ (s.commitMap m).pc.frozen = s.pc.frozen ∧
      (s.commitMap m).ss.records = s.ss.records := by
  simp [State.commitMap, ControlLink.setLatch]

/-- A segment is ignored, staged, or commits its version (R6 to R10). -/
theorem State.takeSegment_cases (g : RawSegment) (s : State) :
    let st := (collectionFor s.cm.staging g.version g.count).placeSegment g.number
      (g.entries.filterMap RawEntry.intake)
    (s.cm.committed.version = some g.version ∧ s.takeSegment g = s) ∨
      (s.cm.committed.version ≠ some g.version ∧ st.complete = true ∧ s.takeSegment g = s.commitMap st.lineup) ∨
      (s.cm.committed.version ≠ some g.version ∧ st.complete = false ∧
        s.takeSegment g = { s with cm := { s.cm with staging := some st } }) := by
  unfold State.takeSegment
  dsimp only
  split_ifs with known complete
  · exact .inl ⟨known, rfl⟩
  · exact .inr (.inl ⟨known, complete, rfl⟩)
  · exact .inr (.inr ⟨known, by simpa using complete, rfl⟩)

@[simp] theorem State.takeSegment_frame (g : RawSegment) (s : State) :
    (s.takeSegment g).phase = s.phase ∧ (s.takeSegment g).hf = s.hf ∧ (s.takeSegment g).tb = s.tb ∧
      (s.takeSegment g).tp.ifKHz = s.tp.ifKHz ∧ (s.takeSegment g).pg = s.pg ∧ (s.takeSegment g).ep = s.ep ∧
      (s.takeSegment g).pending = s.pending ∧ (s.takeSegment g).cl.parser = s.cl.parser ∧
      (s.takeSegment g).cl.queue = s.cl.queue ∧ (s.takeSegment g).cl.transmit = s.cl.transmit ∧
      (s.takeSegment g).cl.stopped = s.cl.stopped ∧ (s.takeSegment g).pc.profiles = s.pc.profiles ∧
      (s.takeSegment g).pc.bindings = s.pc.bindings ∧ (s.takeSegment g).pc.record = s.pc.record ∧
      (s.takeSegment g).pc.frozen = s.pc.frozen ∧ (s.takeSegment g).ss.records = s.ss.records := by
  obtain ⟨-, h⟩ | ⟨-, -, h⟩ | ⟨-, -, h⟩ := s.takeSegment_cases g <;> rw [h] <;> simp

@[simp] theorem State.takeGuide_frame (g : RawGuide) (s : State) :
    (s.takeGuide g).phase = s.phase ∧ (s.takeGuide g).hf = s.hf ∧ (s.takeGuide g).tb = s.tb ∧
      (s.takeGuide g).cm = s.cm ∧ (s.takeGuide g).tp = s.tp ∧ (s.takeGuide g).ou = s.ou ∧
      (s.takeGuide g).pg = (s.pg.placeAll (g.events.filterMap (RawEvent.intake g.service)) s.now).1 ∧
      (s.takeGuide g).ep = s.ep ∧ (s.takeGuide g).pending = s.pending ∧
      (s.takeGuide g).cl.parser = s.cl.parser ∧ (s.takeGuide g).cl.queue = s.cl.queue ∧
      (s.takeGuide g).cl.transmit = s.cl.transmit ∧ (s.takeGuide g).cl.stopped = s.cl.stopped ∧
      (s.takeGuide g).pc.profiles = s.pc.profiles ∧ (s.takeGuide g).pc.bindings = s.pc.bindings ∧
      (s.takeGuide g).pc.record = s.pc.record ∧ (s.takeGuide g).pc.frozen = s.pc.frozen ∧
      (s.takeGuide g).ss.records = s.ss.records := by
  unfold State.takeGuide
  dsimp only
  split_ifs <;> simp [ControlLink.setLatch]

@[simp] theorem State.takeEntitlements_frame (e : Entitlements) (s : State) :
    (s.takeEntitlements e).phase = s.phase ∧ (s.takeEntitlements e).hf = s.hf ∧
      (s.takeEntitlements e).tb = s.tb ∧ (s.takeEntitlements e).cm = s.cm ∧ (s.takeEntitlements e).tp = s.tp ∧
      (s.takeEntitlements e).ou = s.ou ∧ (s.takeEntitlements e).pg = s.pg ∧
      (s.takeEntitlements e).ep = { s.ep with ent := e } ∧ (s.takeEntitlements e).pending = s.pending ∧
      (s.takeEntitlements e).cl.parser = s.cl.parser ∧ (s.takeEntitlements e).cl.queue = s.cl.queue ∧
      (s.takeEntitlements e).cl.transmit = s.cl.transmit ∧ (s.takeEntitlements e).cl.stopped = s.cl.stopped ∧
      (s.takeEntitlements e).pc.profiles = s.pc.profiles ∧ (s.takeEntitlements e).pc.bindings = s.pc.bindings ∧
      (s.takeEntitlements e).pc.record = s.pc.record ∧ (s.takeEntitlements e).pc.frozen = s.pc.frozen ∧
      (s.takeEntitlements e).ss.records = s.ss.records := by
  simp [State.takeEntitlements, ControlLink.setLatch]

@[simp] theorem State.takePurack_frame (n : Nat) (s : State) :
    (s.takePurack n).phase = s.phase ∧ (s.takePurack n).hf = s.hf ∧ (s.takePurack n).tb = s.tb ∧
      (s.takePurack n).cm = s.cm ∧ (s.takePurack n).tp = s.tp ∧ (s.takePurack n).ou = s.ou ∧
      (s.takePurack n).pg = s.pg ∧
      (s.takePurack n).ep = { s.ep with
        log := s.ep.log.filterMap (Purchase.acknowledge n s.now)
        seq := { s.ep.seq with acked := max s.ep.seq.acked (min n (s.ep.seq.next - 1)) } } ∧
      (s.takePurack n).pending = s.pending ∧ (s.takePurack n).cl.parser = s.cl.parser ∧
      (s.takePurack n).cl.queue = s.cl.queue ∧ (s.takePurack n).cl.transmit = s.cl.transmit ∧
      (s.takePurack n).cl.stopped = s.cl.stopped ∧ (s.takePurack n).pc.profiles = s.pc.profiles ∧
      (s.takePurack n).pc.bindings = s.pc.bindings ∧ (s.takePurack n).pc.record = s.pc.record ∧
      (s.takePurack n).pc.frozen = s.pc.frozen ∧ (s.takePurack n).ss.records = s.ss.records := by
  unfold State.takePurack
  dsimp only
  split_ifs <;> simp [ControlLink.setLatch]

@[simp] theorem State.pinReset_frame (s : State) :
    s.pinReset.phase = s.phase ∧ s.pinReset.hf = s.hf ∧ s.pinReset.tb = s.tb ∧ s.pinReset.cm = s.cm ∧
      s.pinReset.tp = s.tp ∧ s.pinReset.ou = s.ou ∧ s.pinReset.pg = s.pg ∧ s.pinReset.ep = s.ep ∧
      s.pinReset.pending = s.pending ∧ s.pinReset.cl.parser = s.cl.parser ∧
      s.pinReset.cl.queue = s.cl.queue ∧ s.pinReset.cl.transmit = s.cl.transmit ∧
      s.pinReset.cl.stopped = s.cl.stopped ∧ s.pinReset.pc.profiles = s.pc.profiles ∧
      s.pinReset.pc.bindings = s.pc.bindings ∧
      s.pinReset.pc.record = { s.pc.record with pin := none, attempts := 0, lockout := 0 } ∧
      s.pinReset.pc.frozen = s.pc.frozen ∧ s.pinReset.ss.records = s.ss.records := by
  simp [State.pinReset, State.endPasses]

/-- No packet changes the phase, the stored records, the requests or the waiting commands, the profiles, the
bindings or the frozen flag. -/
theorem Taking.frame {c : Instr} {s x : State} (h : Taking c s x) :
    x.phase = s.phase ∧ x.ss.records = s.ss.records ∧ x.pending = s.pending ∧ x.cl.parser = s.cl.parser ∧
      x.cl.queue = s.cl.queue ∧ x.cl.transmit = s.cl.transmit ∧ x.cl.stopped = s.cl.stopped ∧
      x.pc.profiles = s.pc.profiles ∧ x.pc.bindings = s.pc.bindings ∧ x.pc.frozen = s.pc.frozen := by
  cases h <;> simp

/-- A port fault touches HF and the latches alone (R183). -/
theorem State.edge_frame (fd : Byte) (b : Bool) (h : HeadendFeed) (s : State) :
    s.edge fd b h = { s with hf := (s.edge fd b h).hf, cl := { s.cl with latches := (s.edge fd b h).cl.latches } } := by
  unfold State.edge
  split <;> split_ifs <;> rfl

/-- The completion of a purchase touches the log and what the close of an event touches (R107). -/
@[simp] theorem State.completePurchase_frame (k : SlotId) (p : Option Purchase) (s : State) :
    (s.completePurchase k p).phase = s.phase ∧ (s.completePurchase k p).hf = s.hf ∧
      (s.completePurchase k p).tb = s.tb ∧ (s.completePurchase k p).cm = s.cm ∧
      (s.completePurchase k p).tp = s.tp ∧ (s.completePurchase k p).ou = s.ou ∧
      (s.completePurchase k p).pg = s.pg ∧ (s.completePurchase k p).pending = s.pending ∧
      (s.completePurchase k p).cl.parser = s.cl.parser ∧ (s.completePurchase k p).cl.queue = s.cl.queue ∧
      (s.completePurchase k p).cl.transmit = s.cl.transmit ∧
      (s.completePurchase k p).cl.stopped = s.cl.stopped ∧
      (s.completePurchase k p).pc.profiles = s.pc.profiles ∧
      (s.completePurchase k p).pc.bindings = s.pc.bindings ∧
      (s.completePurchase k p).pc.record = s.pc.record ∧ (s.completePurchase k p).pc.frozen = s.pc.frozen ∧
      (s.completePurchase k p).ss.records = s.ss.records := by
  unfold State.completePurchase
  split
  · split_ifs <;> simp [ControlLink.setLatch]
  · simp

@[simp] theorem State.completeWrite_frame (c : Content) (s : State) :
    (s.completeWrite c).phase = s.phase ∧ (s.completeWrite c).hf = s.hf ∧ (s.completeWrite c).tb = s.tb ∧
      (s.completeWrite c).cm = s.cm ∧ (s.completeWrite c).tp = s.tp ∧ (s.completeWrite c).ou = s.ou ∧
      (s.completeWrite c).pg = s.pg ∧ (s.completeWrite c).pending = s.pending ∧
      (s.completeWrite c).cl.parser = s.cl.parser ∧ (s.completeWrite c).cl.queue = s.cl.queue ∧
      (s.completeWrite c).cl.transmit = s.cl.transmit ∧ (s.completeWrite c).cl.stopped = s.cl.stopped ∧
      (s.completeWrite c).pc.profiles = s.pc.profiles ∧ (s.completeWrite c).pc.bindings = s.pc.bindings ∧
      (s.completeWrite c).pc.record = s.pc.record ∧ (s.completeWrite c).pc.frozen = s.pc.frozen ∧
      (s.completeWrite c).ss.records = s.ss.records.store c := by
  unfold State.completeWrite
  split <;> simp

/-! ### The resets -/

/-- A reset gives every block its fresh state, the pins apart (R42 to R212). -/
theorem State.resetAll_fresh (cause : ResetCause) (tb : TimeBase) (s : State) :
    (s.freshBlocks cause tb).PinsOnly (s.resetAll cause tb) := State.darken_pinsOnly _

/-- The blocks of a state that a reset has put back, or that has lost its supply, the time base apart. -/
structure State.Fresh (s t : State) : Prop where
  cl : ∃ cause, t.cl = { State.reset.cl with cause := cause }
  hf : t.hf = { State.reset.hf with fstbHigh := s.hf.fstbHigh }
  cm : t.cm = State.reset.cm
  tp : t.tp = State.reset.tp
  ou : t.ou = State.reset.ou
  pg : t.pg = State.reset.pg
  ep : t.ep = State.reset.ep
  pc : t.pc = State.reset.pc
  ae : t.ae = State.reset.ae
  ss : t.ss = { records := s.ss.records, dirty := [], engine := none }
  pending : t.pending = s.pending
  phase : t.phase = .loading ∨ t.phase = .off

theorem State.resetAll_isFresh (cause : ResetCause) (tb : TimeBase) (s : State) :
    s.Fresh (s.resetAll cause tb) := by
  rw [(s.resetAll_fresh cause tb).rest]
  exact ⟨⟨cause, rfl⟩, rfl, rfl, rfl, rfl, rfl, rfl, rfl, rfl, rfl, rfl, .inl rfl⟩

theorem State.losePower_isFresh (s : State) : s.Fresh s.losePower :=
  ⟨⟨.powerOn, rfl⟩, rfl, rfl, rfl, rfl, rfl, rfl, rfl, rfl, rfl, rfl, .inr rfl⟩

/-- The commands that may reset the part do so, or do nothing, or send a reply. -/
theorem Does.fresh {c : Instr} {s t : State} (h : Does c s t) (hc : s.mayReset c = true) :
    t = s ∨ s.Fresh t ∨ ∃ r rest, c = .replySent ∧ s.linkAlive = true ∧ s.cl.transmit = r :: rest ∧
      s.cl.isRestartReply r = false ∧
      t = ({ s with cl := { s.cl with transmit := rest } } : State).emit (.reply r.frame) := by
  cases h
  case nothing => exact .inl rfl
  case powerOn => exact .inr (.inl (s.resetAll_isFresh _ _))
  case powerLoss => exact .inr (.inl s.losePower_isFresh)
  case releaseReset => exact .inr (.inl (s.resetAll_isFresh _ _))
  case replySent r rest alive oldest other => exact .inr (.inr ⟨r, rest, rfl, alive, oldest, other, rfl⟩)
  case restart r rest _ _ _ =>
    refine .inr (.inl ?_)
    obtain ⟨cl, hf, cm, tp, ou, pg, ep, pc, ae, ss, pending, phase⟩ :=
      State.resetAll_isFresh .restart s.tb
        (({ s with cl := { s.cl with transmit := rest } } : State).emit (.reply r.frame))
    exact ⟨cl, hf, cm, tp, ou, pg, ep, pc, ae, ss, pending, phase⟩
  case serves row _ _ _ => exfalso; revert row hc; cases c <;> simp [State.mayReset, requestRows]
  case takes row _ _ => exfalso; revert row hc; cases c <;> simp [State.mayReset, packetRows]
  case tunerMoves row _ _ => exfalso; revert row hc; cases c <;> simp [State.mayReset]
  case tunerFaults row _ _ => exfalso; revert row hc; cases c <;> simp [State.mayReset]
  case tunerLoads row _ _ => exfalso; revert row hc; cases c <;> simp [State.mayReset]
  all_goals exact absurd hc (by simp [State.mayReset])

end Sys2Proof.Machine

/-! PROOF. Rules over all commands: which commands change the stored records, the settings under the frozen flag
and the time (O14, O16, O17). -/

namespace Sys2Proof.Machine

theorem State.Fresh.records {s t : State} (h : s.Fresh t) : t.ss.records = s.ss.records := by rw [h.ss]

/-- The load end leaves the stored records, and the phase apart, what is neither CL nor store is as the records
are taken (R206). -/
@[simp] theorem State.endLoad_frame (s : State) :
    s.endLoad.phase = .running ∧ s.endLoad.cl = s.cl.setLatch .ready ∧ s.endLoad.hf = s.takeRecords.hf ∧
      s.endLoad.tb = s.tb ∧ s.endLoad.cm = s.takeRecords.cm ∧ s.endLoad.tp = s.takeRecords.tp ∧
      s.endLoad.ou = s.ou ∧ s.endLoad.pg = s.pg ∧ s.endLoad.ep = s.ss.records.purchasing ∧
      s.endLoad.pc = s.takeRecords.pc ∧ s.endLoad.ae = s.ae ∧ s.endLoad.pins = s.pins ∧
      s.endLoad.pending = s.pending ∧ s.endLoad.ss.records = s.ss.records := by
  simp [State.endLoad, State.takeRecords]

/-- A write's completion apart, no command changes a stored record (R212). -/
theorem Does.records_eq {c : Instr} {s t : State} (h : Does c s t) (hc : c ≠ .writeCompletion) :
    t.ss.records = s.ss.records := by
  cases h
  case nothing => rfl
  case powerOn => exact (s.resetAll_isFresh _ _).records
  case powerLoss => exact s.losePower_isFresh.records
  case assertReset => rw [s.assertReset_rest.rest]
  case releaseReset => exact (s.resetAll_isFresh _ _).records
  case restart => exact (State.resetAll_isFresh _ _ _).records
  case serves does => exact does.frame.2.2.2.2.1
  case takes does => exact does.frame.2.1
  case edgeOpen => rw [State.edge_frame]
  case writeDone => exact absurd rfl hc
  all_goals simp [State.portFault]

theorem Records.store_identity (r : Records) (c : Content) : (r.store c).identity = r.identity := by
  cases c <;> rfl

/-- Settles O14: a write's completion apart, no command's effect touches the records. -/
theorem recordsChangeOnlyAtWriteCompletion : Obligations.RecordsChangeOnlyAtWriteCompletion := by
  intro c s t h
  have does := does_of_exec h
  by_cases hc : c = .writeCompletion
  · subst hc
    cases does with
    | nothing => exact ⟨fun _ => rfl, fun _ _ => rfl, rfl⟩
    | takes _ _ _ row => simp [packetRows] at row
    | serves _ _ _ _ _ _ _ row => simp [requestRows] at row
    | tunerMoves _ _ _ _ _ row => simp at row
    | tunerFaults _ _ _ _ _ row => simp at row
    | tunerLoads _ _ _ _ _ row => simp at row
    | writeDone _ x hx =>
      refine ⟨fun hne => absurd rfl hne, fun _ hn => by simp [hn] at hx, ?_⟩
      rw [(State.completeWrite_frame x s).2.2.2.2.2.2.2.2.2.2.2.2.2.2.2.2, Records.store_identity]
  · have hrec := does.records_eq hc
    exact ⟨fun _ => hrec, fun h => absurd h hc, by rw [hrec]⟩

/-! ### The frozen flag (R128, R134, R141) -/

/-- What the frozen flag protects: itself, the profiles, the bindings and the PIN. -/
structure State.FrozenAlike (s t : State) : Prop where
  frozen : t.pc.frozen = true
  profiles : t.pc.profiles = s.pc.profiles
  bindings : t.pc.bindings = s.pc.bindings
  pin : t.pc.record.pin = s.pc.record.pin

/-- While the frozen flag is set, no request changes what it protects. -/
theorem Serving.frozen {c : Instr} {s x : State} {st : Status} (h : Serving c s x st)
    (frozen : s.pc.frozen = true) : s.FrozenAlike x := by
  have thaw {P : Prop} (thawed : s.pc.frozen = false) : P := by rw [frozen] at thawed; cases thawed
  cases h
  case firstPin _ thawed _ => exact thaw thawed
  case newPin _ thawed _ => exact thaw thawed
  case pinClear thawed _ => exact thaw thawed
  case masterClear thawed _ => exact thaw thawed
  case profileSet _ _ _ thawed _ => exact thaw thawed
  case bind _ _ _ thawed _ => exact thaw thawed
  case select served =>
    obtain ⟨-, -, -, -, -, -, -, -, -, -, -, hprof, hbind, hrec, hfroz⟩ := (State.allocate_allots served).rewires.frame
    constructor <;> simp [State.setChannel, hprof, hbind, hrec, hfroz, frozen]
  case tunerSetup => rw [(State.setIf_frame _ s).1]; exact ⟨frozen, rfl, rfl, rfl⟩
  case buyRefused passed =>
    obtain rfl | ⟨-, rfl⟩ := passed <;> constructor <;> simp [State.acceptPin, frozen]
  case buy passed _ _ _ =>
    unfold State.acceptBuy
    dsimp only
    obtain rfl | ⟨-, rfl⟩ := passed <;> split_ifs <;> constructor <;> simp [State.acceptPin, frozen]
  all_goals constructor <;> simp [State.acceptPin, frozen]

/-- Settles O16, by what each command can do. -/
theorem frozenSettingsStand : Obligations.FrozenSettingsStand := by
  intro c s t h frozen hreset hload
  suffices hs : s.FrozenAlike t ∨ (c = .pinreset ∧ t.pc.frozen = true ∧ t.pc.profiles = s.pc.profiles ∧
      t.pc.bindings = s.pc.bindings ∧ t.pc.record.pin = none) by
    obtain ⟨hf, hp, hb, hpin⟩ | ⟨hc, hf, hp, hb, hpin⟩ := hs
    · exact ⟨hf, hp, hb, .inl hpin⟩
    · exact ⟨hf, hp, hb, .inr ⟨hc, hpin⟩⟩
  have moves {P : Prop} (hr : s.mayReset c = true) : P := by rw [hreset] at hr; cases hr
  cases does_of_exec h
  case powerOn => exact moves rfl
  case powerLoss => exact moves rfl
  case releaseReset => exact moves rfl
  case restart own =>
    simp only [ControlLink.isRestartReply, Bool.and_eq_true] at own
    exact moves own.1.1
  case loadEnd => exact absurd rfl hload
  case assertReset => rw [s.assertReset_rest.rest]; exact .inl ⟨frozen, rfl, rfl, rfl⟩
  case serves does =>
    obtain ⟨hf, hp, hb, hpin⟩ := does.frozen frozen
    exact .inl ⟨hf, hp, hb, hpin⟩
  case takes does =>
    obtain ⟨-, -, -, -, -, -, -, hp, hb, hf⟩ := does.frame
    cases does
    case pinreset => exact .inr ⟨rfl, hf.trans frozen, hp, hb, by simp⟩
    all_goals exact .inl ⟨hf.trans frozen, hp, hb, by simp⟩
  case edgeOpen => rw [State.edge_frame]; exact .inl ⟨frozen, rfl, rfl, rfl⟩
  all_goals
    refine .inl ?_
    constructor <;> simp [State.portFault, frozen]

/-! ### The time (R61 to R68) -/

theorem State.resetAll_tb (cause : ResetCause) (tb : TimeBase) (s : State) : (s.resetAll cause tb).tb = tb := by
  rw [(s.resetAll_fresh cause tb).rest]; rfl

/-- Settles O17: seconds, TIME packets and resets apart, no command's effect touches TB. -/
theorem timeMovesOnlyWithSecondsAndTimePackets : Obligations.TimeMovesOnlyWithSecondsAndTimePackets := by
  intro c s t h hon hloss hrelease hsecond
  suffices hs : t.tb = s.tb ∨ (c = .time ∧ t.tb.localSeconds = s.tb.localSeconds) by
    obtain hs | ⟨hc, hs⟩ := hs
    · exact ⟨by rw [hs], fun _ => hs⟩
    · exact ⟨hs, fun hne => absurd hc hne⟩
  cases does_of_exec h
  case powerOn => exact absurd rfl hon
  case powerLoss => exact absurd rfl hloss
  case releaseReset => exact absurd rfl hrelease
  case tick => exact absurd rfl hsecond
  case minute => exact absurd rfl hsecond
  case assertReset => rw [s.assertReset_rest.rest]; exact .inl rfl
  case restart => exact .inl (State.resetAll_tb _ _ _)
  case serves does => exact .inl does.frame.2.1
  case takes does =>
    cases does
    case time => exact .inr ⟨rfl, by simp⟩
    all_goals exact .inl (by simp)
  case edgeOpen => rw [State.edge_frame]; exact .inl rfl
  all_goals exact .inl (by simp [State.portFault])

end Sys2Proof.Machine

/-! PROOF. What the write engine carries after a command, and the laws of the dirty set and of the map (O8, O10). -/

namespace Sys2Proof.Machine

/-! ### The engine -/

/-- The engine carries what it carried before, or what an owner supplies from the state as it stands (R208). -/
def State.EngineFrom (old : Option Content) (t : State) : Prop :=
  t.ss.engine = old ∨ ∃ r, t.ss.engine = some (t.supply r)

theorem State.startWrite_engine {s : State} {old : Option Content} (h : s.ss.engine = old) :
    s.startWrite.EngineFrom old := by
  rcases s.startWrite_cases with ⟨e, -⟩ | ⟨r, rest, -, -, e⟩
  · rw [e]; exact .inl h
  · rw [e]; exact .inr ⟨r, by cases r <;> rfl⟩

theorem State.report_engine {s : State} {old : Option Content} {os : List OutputId} (h : s.ss.engine = old) :
    (s.report os).EngineFrom old := by
  refine State.startWrite_engine ?_
  rw [(s.evaluateAll_evaluates os).rest]
  exact h

theorem State.finish_engine {s before : State} {old : Option Content} {os : List OutputId}
    (h : s.ss.engine = old) : (State.finish before os s).EngineFrom old := by
  refine State.report_engine ?_
  rw [(State.loadRoutes_pinsOnly before s).rest]
  exact h

/-- What an owner supplies is read from EP, PC, CM, the feed setup and the IF alone (R204). -/
theorem State.supply_congr {s t : State} (ep : t.ep = s.ep) (record : t.pc.record = s.pc.record)
    (profiles : t.pc.profiles = s.pc.profiles) (bindings : t.pc.bindings = s.pc.bindings)
    (cm : t.cm = s.cm) (hf : t.hf = s.hf) (tp : t.tp.ifKHz = s.tp.ifKHz) (r : RecordId) :
    t.supply r = s.supply r := by
  cases r <;> simp only [State.supply, ep, record, profiles, bindings, cm, hf, tp]

theorem Serving.engine {c : Instr} {s x : State} {st : Status} (h : Serving c s x st) :
    x.EngineFrom s.ss.engine := by
  cases h
  case wake => exact State.finish_engine (by simp)
  case standby => exact State.finish_engine (by simp)
  case select served =>
    obtain ⟨-, -, -, -, -, -, -, -, -, hss, -⟩ := (State.allocate_allots served).rewires.frame
    exact State.finish_engine (by simp [State.setChannel, hss])
  case tunerSetup =>
    unfold State.setIf
    split_ifs
    · exact .inl rfl
    · exact State.startWrite_engine rfl
  case wrongPin =>
    unfold State.countWrong
    dsimp only
    split_ifs <;> exact State.report_engine (by simp)
  case firstPin => exact State.report_engine (by simp)
  case newPin => exact State.report_engine (by simp)
  case pinClear => exact State.report_engine rfl
  case masterClear => exact State.report_engine rfl
  case pinEnter => exact State.report_engine (by simp [State.acceptPin])
  case profileSet passed =>
    obtain ⟨-, -, -, -, -, -, -, -, -, -, -, -, -, heng, -⟩ := passed.repinned.frame
    exact State.report_engine (by simp [heng])
  case bind passed =>
    obtain ⟨-, -, -, -, -, -, -, -, -, -, -, -, -, heng, -⟩ := passed.repinned.frame
    unfold State.bindOutput
    split_ifs <;> exact State.report_engine (by simp [heng])
  case feedSetup => exact State.startWrite_engine rfl
  case buyRefused passed =>
    obtain ⟨-, -, -, -, -, -, -, -, -, -, -, -, -, heng, -⟩ := passed.repinned.frame
    exact State.report_engine heng
  case buy passed _ _ _ =>
    obtain ⟨-, -, -, -, -, -, -, -, -, -, -, -, -, heng, -⟩ := passed.repinned.frame
    unfold State.acceptBuy
    dsimp only
    split_ifs <;> exact State.report_engine (by simp [heng])
  all_goals exact .inl rfl

theorem State.minuteEvent_engine {s : State} {old : Option Content} (h : s.ss.engine = old) :
    s.minuteEvent.EngineFrom old :=
  State.report_engine (by simpa [State.purchaseMinute, State.parentalMinute] using h)

theorem Taking.engine {c : Instr} {s x : State} (h : Taking c s x) : x.EngineFrom s.ss.engine := by
  cases h
  case ignored => exact .inl rfl
  case time =>
    obtain ⟨-, -, -, h⟩ | h | h := s.takeTime_cases _ <;> rw [h]
    · exact .inl rfl
    · exact State.minuteEvent_engine rfl
    · exact State.minuteEvent_engine rfl
  case map g _ _ _ _ =>
    obtain ⟨-, h⟩ | ⟨-, -, h⟩ | ⟨-, -, h⟩ := s.takeSegment_cases g <;> rw [h]
    · exact .inl rfl
    · exact State.finish_engine (by simp)
    · exact .inl rfl
  case guide =>
    unfold State.takeGuide
    dsimp only
    split_ifs <;> exact State.report_engine rfl
  case entitlements => exact State.report_engine rfl
  case purack =>
    unfold State.takePurack
    dsimp only
    split_ifs <;> exact State.report_engine (by simp)
  case group => exact State.startWrite_engine rfl
  case master => exact State.startWrite_engine rfl
  case pinreset => exact State.report_engine (by simp [State.endPasses])

theorem State.completePurchase_engine {s : State} {old : Option Content} {k : SlotId} {p : Option Purchase}
    (h : s.ss.engine = old) : (s.completePurchase k p).EngineFrom old := by
  unfold State.completePurchase
  split
  · split_ifs <;> exact State.report_engine h
  · exact State.report_engine h

theorem State.completeWrite_engine {s : State} {c : Content} : (s.completeWrite c).EngineFrom none := by
  unfold State.completeWrite
  split
  · exact State.completePurchase_engine rfl
  · exact State.startWrite_engine rfl

theorem State.endLoad_engine {s : State} : s.endLoad.EngineFrom s.ss.engine := by
  have h : ((s.takeRecords.markSlots s.ss.records.reconciled).latch .ready).startWrite.EngineFrom s.ss.engine :=
    State.startWrite_engine (by simp [State.takeRecords])
  obtain h | ⟨r, h⟩ := h
  · exact .inl h
  · exact .inr ⟨r, h.trans (by cases r <;> rfl)⟩

/-- The engine carries nothing, or what it carried before the command, or what an owner supplies from the state
as the command leaves it (R208, R211). -/
theorem Does.engine {c : Instr} {s t : State} (h : Does c s t) :
    t.EngineFrom s.ss.engine ∨ t.EngineFrom none := by
  cases h
  case powerOn => exact .inr (.inl (by rw [(s.resetAll_isFresh _ _).ss]))
  case powerLoss => exact .inr (.inl (by rw [s.losePower_isFresh.ss]))
  case assertReset => rw [s.assertReset_rest.rest]; exact .inr (.inl rfl)
  case releaseReset => exact .inr (.inl (by rw [(s.resetAll_isFresh _ _).ss]))
  case restart => exact .inr (.inl (by unfold State.restartPart; rw [(State.resetAll_isFresh _ _ _).ss]))
  case loadEnd => exact .inl State.endLoad_engine
  case minute => exact .inl (State.minuteEvent_engine rfl)
  case serves does =>
    refine .inl ?_
    obtain h | ⟨r, h⟩ := does.engine
    · exact .inl h
    · exact .inr ⟨r, h.trans (by cases r <;> rfl)⟩
  case takes does => exact .inl does.engine
  case edgeOpen => rw [State.edge_frame]; exact .inl (.inl rfl)
  case tunerMoves => exact .inl (State.finish_engine rfl)
  case tunerFaults => exact .inl (State.finish_engine rfl)
  case tunerLoads => exact .inl (State.finish_engine (by simp))
  case writeDone => exact .inr State.completeWrite_engine
  all_goals exact .inl (.inl rfl)

/-- What holds of the content the engine carried, and of every content an owner supplies from the state as it
stands, holds of the content it carries after a command. -/
theorem Does.engine_forall {c : Instr} {s t : State} (h : Does c s t) {P : Content → Prop}
    (old : ∀ x ∈ s.ss.engine, P x) (new : ∀ r, P (t.supply r)) : ∀ x ∈ t.ss.engine, P x := by
  obtain (e | ⟨r, e⟩) | (e | ⟨r, e⟩) := h.engine <;> rw [e]
  · exact old
  · rintro x ⟨⟩; exact new r
  · rintro x ⟨⟩
  · rintro x ⟨⟩; exact new r

end Sys2Proof.Machine

/-! PROOF. The channel map: what staging and commits keep of its laws, and O10. -/

namespace Sys2Proof.Machine

/-! ### What a command makes of the stored records and of the map -/

/-- The stored records stand, or the content the engine carried has joined them (R210, R212). -/
theorem Does.records {c : Instr} {s t : State} (h : Does c s t) :
    t.ss.records = s.ss.records ∨ ∃ x ∈ s.ss.engine, t.ss.records = s.ss.records.store x := by
  by_cases hc : c = .writeCompletion
  · subst hc
    cases h with
    | nothing => exact .inl rfl
    | takes _ _ _ row => simp [packetRows] at row
    | serves _ _ _ _ _ _ _ row => simp [requestRows] at row
    | tunerMoves _ _ _ _ _ row => simp at row
    | tunerFaults _ _ _ _ _ row => simp at row
    | tunerLoads _ _ _ _ _ row => simp at row
    | writeDone _ x hx => exact .inr ⟨x, hx, by simp⟩
  · exact .inl (h.records_eq hc)

/-- The collection a segment leaves (R7 to R9). -/
def RawSegment.staged (g : RawSegment) (staging : Option Staging) : Staging :=
  (collectionFor staging g.version g.count).placeSegment g.number (g.entries.filterMap RawEntry.intake)

/-- The map changes by a reset, a load, or a segment alone, which is staged or commits (R10, R15). -/
theorem Does.cm {c : Instr} {s t : State} (h : Does c s t) :
    t.cm = s.cm ∨ t.cm = State.reset.cm ∨ t.cm = s.takeRecords.cm ∨
      ∃ g : RawSegment, (g.version < 256 ∧ g.count ≤ 16 ∧ g.number < g.count ∧ g.entries.length ≤ 16) ∧
        (t.cm = { s.cm with staging := some (g.staged s.cm.staging) } ∨
          t.cm = { committed := (g.staged s.cm.staging).lineup, staging := none }) := by
  cases h
  case powerOn => exact .inr (.inl (s.resetAll_isFresh _ _).cm)
  case powerLoss => exact .inr (.inl rfl)
  case assertReset => rw [s.assertReset_rest.rest]; exact .inl rfl
  case releaseReset => exact .inr (.inl (s.resetAll_isFresh _ _).cm)
  case restart => exact .inr (.inl (State.resetAll_isFresh _ _ _).cm)
  case loadEnd => exact .inr (.inr (.inl (by simp)))
  case serves does => exact .inl does.frame.2.2.1
  case takes does =>
    cases does with
    | map _ g version count number entries =>
      obtain ⟨-, h⟩ | ⟨-, -, h⟩ | ⟨-, -, h⟩ := s.packetGone.takeSegment_cases g <;> rw [h]
      · exact .inl rfl
      · exact .inr (.inr (.inr ⟨g, ⟨version, count, number, entries⟩, .inr (by simp [RawSegment.staged])⟩))
      · exact .inr (.inr (.inr ⟨g, ⟨version, count, number, entries⟩, .inl rfl⟩))
    | _ => exact .inl (by simp)
  case edgeOpen => rw [State.edge_frame]; exact .inl rfl
  all_goals exact .inl (by simp [State.portFault])

/-! ### An entry at intake (R5) -/

theorem storedLabel_lawful (l : List Byte) :
    (storedLabel l).length ≤ 8 ∧ ∀ c ∈ storedLabel l, 0x20 ≤ c.toNat ∧ c.toNat ≤ 0x7E := by
  refine ⟨by simp [storedLabel], ?_⟩
  simp only [storedLabel, List.mem_map, forall_exists_index, and_imp, forall_apply_eq_imp_iff₂]
  intro c _
  split_ifs with h
  · exact h
  · decide

theorem RawEntry.intake_lawful {x : RawEntry} {e : MapEntry} (h : x.intake = some e) : e.Law := by
  unfold RawEntry.intake at h
  split_ifs at h with hx
  obtain ⟨a, -, rfl⟩ := Option.map_eq_some_iff.1 h
  exact ⟨hx.1, hx.2.1, storedLabel_lawful x.label⟩

/-! ### Staged entries (R9) -/

theorem mem_of_placeStaged {x y : StagedEntry} {l : List StagedEntry} (h : y ∈ placeStaged x l) :
    y = x ∨ y ∈ l := by
  induction l with
  | nil => simpa [placeStaged] using h
  | cons z zs ih =>
    unfold placeStaged at h
    split_ifs at h
    · simpa using h
    · obtain h | h := List.mem_cons.1 h
      · exact .inl h
      · exact .inr (List.mem_cons_of_mem _ h)
    · obtain rfl | h := List.mem_cons.1 h
      · exact .inr List.mem_cons_self
      · exact (ih h).imp_right (List.mem_cons_of_mem _)

theorem placeStaged_pairwise {x : StagedEntry} {l : List StagedEntry}
    (h : l.Pairwise fun a b => a.entry.channel < b.entry.channel) :
    (placeStaged x l).Pairwise fun a b => a.entry.channel < b.entry.channel := by
  induction l with
  | nil => simp [placeStaged]
  | cons y ys ih =>
    obtain ⟨hy, hys⟩ := List.pairwise_cons.1 h
    unfold placeStaged
    split_ifs with hlt heq
    · refine List.pairwise_cons.2 ⟨fun z hz => ?_, h⟩
      obtain rfl | hz := List.mem_cons.1 hz
      · exact hlt
      · exact hlt.trans (hy z hz)
    · exact List.pairwise_cons.2 ⟨fun z hz => heq ▸ hy z hz, hys⟩
    · refine List.pairwise_cons.2 ⟨fun z hz => ?_, ih hys⟩
      obtain rfl | hz := mem_of_placeStaged hz
      · omega
      · exact hy z hz

/-- Placing an entry brings one entry more of its own segment at most, and none of another. -/
theorem count_placeStaged (x : StagedEntry) (n : Nat) (l : List StagedEntry) :
    (placeStaged x l).countP (fun y => y.segment = n) ≤
      l.countP (fun y => y.segment = n) + if x.segment = n then 1 else 0 := by
  induction l with
  | nil => simp [placeStaged, List.countP_cons]
  | cons y ys ih =>
    unfold placeStaged
    split_ifs with hlt heq <;> simp only [List.countP_cons, decide_eq_true_eq] at ih ⊢ <;> split_ifs at ih ⊢ <;>
      omega

/-- The entries of one segment, placed over those held. -/
def placeEntries (number : Nat) (entries : List MapEntry) (held : List StagedEntry) : List StagedEntry :=
  entries.foldl (fun acc e => placeStaged ⟨e, number⟩ acc) held

theorem placeEntries_cons (number : Nat) (e : MapEntry) (es : List MapEntry) (held : List StagedEntry) :
    placeEntries number (e :: es) held = placeEntries number es (placeStaged ⟨e, number⟩ held) := rfl

theorem mem_of_placeEntries {number : Nat} {es : List MapEntry} {held : List StagedEntry} {y : StagedEntry}
    (h : y ∈ placeEntries number es held) : y ∈ held ∨ (y.entry ∈ es ∧ y.segment = number) := by
  induction es generalizing held with
  | nil => exact .inl h
  | cons e es ih =>
    obtain h | ⟨hmem, hseg⟩ := ih h
    · obtain rfl | h := mem_of_placeStaged h
      · exact .inr ⟨List.mem_cons_self, rfl⟩
      · exact .inl h
    · exact .inr ⟨List.mem_cons_of_mem _ hmem, hseg⟩

theorem placeEntries_pairwise {number : Nat} {es : List MapEntry} {held : List StagedEntry}
    (h : held.Pairwise fun a b => a.entry.channel < b.entry.channel) :
    (placeEntries number es held).Pairwise fun a b => a.entry.channel < b.entry.channel := by
  induction es generalizing held with
  | nil => exact h
  | cons e es ih => exact ih (placeStaged_pairwise h)

theorem count_placeEntries (number n : Nat) (es : List MapEntry) (held : List StagedEntry) :
    (placeEntries number es held).countP (fun y => y.segment = n) ≤
      held.countP (fun y => y.segment = n) + if number = n then es.length else 0 := by
  induction es generalizing held with
  | nil => simp [placeEntries]
  | cons e es ih =>
    rw [placeEntries_cons, List.length_cons]
    have hstep := count_placeStaged ⟨e, number⟩ n held
    have hrest := ih (placeStaged ⟨e, number⟩ held)
    dsimp only at hstep
    split_ifs at hstep hrest ⊢ <;> omega

/-! ### The received set -/

theorem mem_joinReceived {n m : Nat} {l : List Nat} : m ∈ joinReceived n l ↔ m = n ∨ m ∈ l := by
  induction l with
  | nil => simp [joinReceived]
  | cons k ks ih =>
    unfold joinReceived
    split_ifs with hlt heq
    · simp
    · subst heq; simp
    · simp only [List.mem_cons, ih]; tauto

theorem joinReceived_pairwise {n : Nat} {l : List Nat} (h : l.Pairwise (· < ·)) :
    (joinReceived n l).Pairwise (· < ·) := by
  induction l with
  | nil => simp [joinReceived]
  | cons k ks ih =>
    obtain ⟨hk, hks⟩ := List.pairwise_cons.1 h
    unfold joinReceived
    split_ifs with hlt heq
    · refine List.pairwise_cons.2 ⟨fun z hz => ?_, h⟩
      obtain rfl | hz := List.mem_cons.1 hz
      · exact hlt
      · exact hlt.trans (hk z hz)
    · exact h
    · refine List.pairwise_cons.2 ⟨fun z hz => ?_, ih hks⟩
      obtain rfl | hz := mem_joinReceived.1 hz
      · omega
      · exact hk z hz

/-! ### A segment placed (R9), and a collection committed (R10) -/

/-- The entries a collection keeps when a segment arrives: none of an earlier copy of it (R9 step 1). -/
def Staging.keptFor (st : Staging) (number : Nat) : List StagedEntry :=
  if st.received.contains number then st.entries.filter (fun x => x.segment ≠ number) else st.entries

theorem Staging.placeSegment_eq (st : Staging) (number : Nat) (es : List MapEntry) :
    st.placeSegment number es =
      { st with received := joinReceived number st.received
                entries := placeEntries number es (st.keptFor number) } := rfl

theorem Staging.mem_keptFor {st : Staging} (h : st.Law) {number : Nat} {x : StagedEntry} :
    x ∈ st.keptFor number ↔ x ∈ st.entries ∧ x.segment ≠ number := by
  obtain ⟨-, -, -, -, -, hent, -⟩ := h
  unfold Staging.keptFor
  split_ifs with hr
  · simp
  · refine ⟨fun hx => ⟨hx, fun hseg => hr ?_⟩, And.left⟩
    simpa using hseg ▸ (hent x hx).2

theorem Staging.keptFor_sublist (st : Staging) (number : Nat) : (st.keptFor number).Sublist st.entries := by
  unfold Staging.keptFor
  split_ifs
  · exact List.filter_sublist
  · exact .refl _

theorem Staging.Law.placeSegment {st : Staging} (h : st.Law) {number : Nat} {es : List MapEntry}
    (hnum : number < st.count) (hlen : es.length ≤ 16) (hes : ∀ e ∈ es, e.Law) :
    (st.placeSegment number es).Law := by
  have hkept (x : StagedEntry) := Staging.mem_keptFor h (number := number) (x := x)
  obtain ⟨hver, hcount, hrec, hlt, hpair, hent, hseg⟩ := h
  rw [Staging.placeSegment_eq]
  refine ⟨hver, hcount, joinReceived_pairwise hrec, fun n hn => ?_,
    placeEntries_pairwise (hpair.sublist (st.keptFor_sublist number)), fun x hx => ?_, fun n hn => ?_⟩
  · obtain rfl | hn := mem_joinReceived.1 hn
    · exact hnum
    · exact hlt n hn
  · obtain hx | ⟨hmem, rfl⟩ := mem_of_placeEntries hx
    · obtain ⟨hlaw, hin⟩ := hent x ((hkept x).1 hx).1
      exact ⟨hlaw, mem_joinReceived.2 (.inr hin)⟩
    · exact ⟨hes _ hmem, mem_joinReceived.2 (.inl rfl)⟩
  · rw [← List.countP_eq_length_filter]
    dsimp only
    have hcnt := count_placeEntries number n es (st.keptFor number)
    by_cases hne : number = n
    · subst hne
      have hnone : (st.keptFor number).countP (fun y => y.segment = number) = 0 :=
        List.countP_eq_zero.2 fun x hx => by simpa using ((hkept x).1 hx).2
      rw [if_pos rfl] at hcnt
      omega
    · have hin : n ∈ st.received := (mem_joinReceived.1 hn).resolve_left (Ne.symm hne)
      have hold := hseg n hin
      rw [← List.countP_eq_length_filter] at hold
      have hsub := (st.keptFor_sublist number).countP_le (p := fun y => decide (y.segment = n))
      rw [if_neg hne] at hcnt
      omega

theorem collectionFor_lawful {staging : Option Staging} (h : ∀ st ∈ staging, st.Law) {version count : Nat}
    (hver : version < 256) (hcount : count ≤ 16) : (collectionFor staging version count).Law := by
  have hnew : Staging.Law { version := version, count := count, received := [], entries := [] } := by
    refine ⟨Nat.le_of_lt_succ hver, hcount, .nil, ?_, .nil, ?_, ?_⟩ <;> simp
  unfold collectionFor
  split
  · split_ifs
    · exact h _ rfl
    · exact hnew
  · exact hnew

theorem collectionFor_fields (staging : Option Staging) (version count : Nat) :
    (collectionFor staging version count).version = version ∧
      (collectionFor staging version count).count = count := by
  unfold collectionFor
  split
  · split_ifs with h
    · exact h
    · exact ⟨rfl, rfl⟩
  · exact ⟨rfl, rfl⟩

theorem RawSegment.staged_lawful {g : RawSegment} {staging : Option Staging} (h : ∀ st ∈ staging, st.Law)
    (fits : g.version < 256 ∧ g.count ≤ 16 ∧ g.number < g.count ∧ g.entries.length ≤ 16) :
    (g.staged staging).Law := by
  obtain ⟨hver, hcount, hnum, hlen⟩ := fits
  refine (collectionFor_lawful h hver hcount).placeSegment ?_ ((List.length_filterMap_le _ _).trans hlen) ?_
  · rw [(collectionFor_fields _ _ _).2]; exact hnum
  · intro e he
    obtain ⟨x, -, hx⟩ := List.mem_filterMap.1 he
    exact x.intake_lawful hx

/-- A collection of 16 segments of 16 entries holds 256 (R2). -/
theorem Staging.Law.length_le {st : Staging} (h : st.Law) : st.entries.length ≤ 256 := by
  obtain ⟨-, hcount, -, hlt, -, hent, hseg⟩ := h
  have hall : ∀ n, (st.entries.map StagedEntry.segment).count n ≤ 16 := by
    intro n
    rw [List.count, List.countP_map]
    by_cases hn : n ∈ st.received
    · have := hseg n hn
      rw [← List.countP_eq_length_filter] at this
      exact this
    · rw [List.countP_eq_zero.2]
      · exact Nat.zero_le _
      · intro x hx hxn
        simp only [Function.comp_apply, beq_iff_eq] at hxn
        exact hn (hxn ▸ (hent x hx).2)
  have hsum := Multiset.sum_count_eq_card (s := Finset.range 16)
    (m := ((st.entries.map StagedEntry.segment : List Nat) : Multiset Nat)) fun n hn => by
      obtain ⟨x, hx, rfl⟩ := List.mem_map.1 (Multiset.mem_coe.1 hn)
      exact Finset.mem_range.2 ((hlt _ (hent x hx).2).trans_le hcount)
  simp only [Multiset.coe_count, Multiset.coe_card, List.length_map] at hsum
  rw [← hsum]
  exact (Finset.sum_le_card_nsmul _ _ 16 fun n _ => hall n).trans (by simp)

theorem Staging.Law.lineup {st : Staging} (h : st.Law) : st.lineup.Law := by
  have hlen := h.length_le
  obtain ⟨hver, -, -, -, hpair, hent, -⟩ := h
  refine ⟨List.pairwise_map.2 hpair, by simpa [Staging.lineup] using hlen, ?_, ?_, ?_⟩
  · simp only [Staging.lineup, List.mem_map, forall_exists_index, and_imp, forall_apply_eq_imp_iff₂]
    exact fun x hx => (hent x hx).1
  · intro hn; cases hn
  · rintro v ⟨⟩; exact hver

/-! ### O10 -/

theorem Lineup.law_blank : Lineup.Law { entries := [], version := none } := by
  refine ⟨.nil, ?_, ?_, ?_, ?_⟩ <;> simp

theorem Does.keeps_mapLaw {c : Instr} {s t : State} (h : Does c s t) (hs : s.MapLaw) : t.MapLaw := by
  obtain ⟨hcom, hst, hrec, heng⟩ := hs
  have hcm : t.cm.committed.Law ∧ ∀ st ∈ t.cm.staging, st.Law := by
    obtain e | e | e | ⟨g, fits, e | e⟩ := h.cm <;> rw [e]
    · exact ⟨hcom, hst⟩
    · exact ⟨Lineup.law_blank, by simp [State.reset]⟩
    · refine ⟨?_, by simp [State.takeRecords]⟩
      cases hr : readRecord s.ss.records.map with
      | none => simpa [State.takeRecords, hr] using Lineup.law_blank
      | some m => simpa [State.takeRecords, hr] using hrec m hr
    · exact ⟨hcom, fun st hs => by cases hs; exact RawSegment.staged_lawful hst fits⟩
    · exact ⟨(RawSegment.staged_lawful hst fits).lineup, by simp⟩
  refine ⟨hcm.1, hcm.2, ?_, h.engine_forall heng ?_⟩
  · obtain e | ⟨x, hx, e⟩ := h.records <;> rw [e]
    · exact hrec
    · cases x with
      | map m =>
        simp only [Records.store, readRecord_written]
        rintro m' ⟨⟩
        exact heng _ hx m rfl
      | _ => exact hrec
  · intro r m hm
    cases r <;> simp only [State.supply, Content.map?, Option.mem_def, Option.some.injEq, reduceCtorEq] at hm
    exact hm ▸ hcm.1

/-- Settles O10: the collection a segment leaves is lawful, and so is the lineup it commits. -/
theorem stepsKeepTheMapLawful : Obligations.StepsKeepTheMapLawful := by
  intro s t hs h
  exact step_keeps (P := State.MapLaw) (fun _ _ h => h) (fun _ _ _ does => does.keeps_mapLaw) hs h

end Sys2Proof.Machine

/-! PROOF. The dirty set keeps its order, and every event that leaves records dirty starts a write: O8. -/

namespace Sys2Proof.Machine

/-- The dirty set is in class order without duplicates (R207, R208). -/
structure State.Ordered (s : State) : Prop where
  pairwise : s.ss.dirty.Pairwise fun a b => a.rank < b.rank

theorem State.Ordered.markDirty {s : State} (h : s.Ordered) (r : RecordId) : (s.markDirty r).Ordered :=
  ⟨joinDirty_pairwise h.pairwise⟩

theorem State.Ordered.of_dirty {s t : State} (h : s.Ordered) (e : t.ss.dirty = s.ss.dirty := by rfl) : t.Ordered :=
  ⟨by rw [e]; exact h.pairwise⟩

theorem State.Ordered.latch {s : State} (h : s.Ordered) (n : Notice) : (s.latch n).Ordered := h.of_dirty

theorem State.Ordered.setPass {s : State} (h : s.Ordered) (o : OutputId) (p : Option Pass) :
    (s.setPass o p).Ordered := h.of_dirty

theorem State.Ordered.endPasses {s : State} (h : s.Ordered) : s.endPasses.Ordered := h.of_dirty

theorem State.Ordered.markSlots {s : State} (h : s.Ordered) (ps : List Purchase) : (s.markSlots ps).Ordered :=
  foldl_related (R := fun a b : State => a.Ordered → b.Ordered) (fun _ h => h) (fun h k a => k (h a))
    (fun _ p a => a.markDirty (.slot p.slot)) ps s h

theorem State.Ordered.setPinRecord {s : State} (h : s.Ordered) (r : PinRecord) : (s.setPinRecord r).Ordered := by
  unfold State.setPinRecord
  dsimp only
  split_ifs
  · exact h.of_dirty
  · exact State.Ordered.markDirty (h.of_dirty) .pin

theorem State.Ordered.passed {s x : State} (h : s.Ordered) (passed : s.Passed x) : x.Ordered := by
  obtain rfl | ⟨-, rfl⟩ := passed
  · exact h
  · exact h.setPinRecord _

theorem dirtyAfterStart_sublist (r : RecordId) (rest : List RecordId) :
    (dirtyAfterStart r rest).Sublist rest := by
  cases r with
  | slot => exact List.filter_sublist
  | _ => exact .refl _

/-- The laws of the set and the engine, the phase apart. -/
structure State.Writing (s : State) : Prop where
  ordered : s.Ordered
  idle : s.ss.engine = none → s.ss.dirty = []

theorem State.Writing.of_ss {s t : State} (h : s.Writing) (e : t.ss = s.ss := by rfl) : t.Writing :=
  ⟨h.ordered.of_dirty (by rw [e]), by rw [e]; exact h.idle⟩

theorem State.Ordered.startWrite {s : State} (h : s.Ordered) : s.startWrite.Writing := by
  rcases s.startWrite_cases with ⟨e, hrest⟩ | ⟨r, rest, -, hd, e⟩
  · rw [e]
    exact ⟨h, fun he => hrest.resolve_left fun hne => hne he⟩
  · rw [e]
    have hp := h.pairwise
    rw [hd, List.pairwise_cons] at hp
    exact ⟨⟨hp.2.sublist (dirtyAfterStart_sublist r rest)⟩, fun he => by cases he⟩

theorem State.Ordered.report {s : State} (h : s.Ordered) (os : List OutputId) : (s.report os).Writing := by
  refine State.Ordered.startWrite (h.of_dirty ?_)
  rw [(s.evaluateAll_evaluates os).rest]

theorem State.Ordered.finish {s : State} (h : s.Ordered) (old : State) (os : List OutputId) :
    (State.finish old os s).Writing := by
  refine State.Ordered.report (h.of_dirty ?_) _
  rw [(State.loadRoutes_pinsOnly old s).rest]

theorem State.Ordered.clearPin {s : State} (h : s.Ordered) : s.clearPin.Ordered := by
  unfold State.clearPin
  exact State.Ordered.endPasses (State.Ordered.markDirty (h.of_dirty) _)

theorem State.Ordered.masterClear {s : State} (h : s.Ordered) : s.masterClear.Ordered := by
  unfold State.masterClear
  exact foldl_related (R := fun a b : State => a.Ordered → b.Ordered) (fun _ h => h) (fun h k a => k (h a))
    (fun _ r a => a.markDirty r) _ _ (h.clearPin.of_dirty)

theorem Serving.writing {c : Instr} {s x : State} {st : Status} (h : Serving c s x st) (hs : s.Writing) :
    x.Writing := by
  have ho := hs.ordered
  cases h
  case wake => exact State.Ordered.finish (ho.of_dirty (by simp)) _ _
  case standby => exact State.Ordered.finish (ho.of_dirty (by simp)) _ _
  case select served =>
    obtain ⟨-, -, -, -, -, -, -, -, -, hss, -⟩ := (State.allocate_allots served).rewires.frame
    exact State.Ordered.finish (ho.of_dirty (by simp [State.setChannel, hss])) _ _
  case tunerSetup v _ _ _ =>
    unfold State.setIf
    split_ifs
    · exact hs
    · exact State.Ordered.startWrite (State.Ordered.markDirty (ho.of_dirty) _)
  case wrongPin =>
    unfold State.countWrong
    dsimp only
    split_ifs
    · exact ((ho.setPinRecord _).latch _).report _
    · exact (ho.setPinRecord _).report _
  case firstPin => exact (ho.setPinRecord _).report _
  case newPin => exact (ho.setPinRecord _).report _
  case pinClear => exact ho.clearPin.report _
  case masterClear => exact ho.masterClear.report _
  case pinEnter => exact State.Ordered.report (State.Ordered.setPass (ho.setPinRecord _) _ _) _
  case profileSet passed =>
    have hx := ho.passed passed
    exact State.Ordered.report (State.Ordered.markDirty (hx.of_dirty) _) _
  case bind passed =>
    have hx := ho.passed passed
    unfold State.bindOutput
    split_ifs
    · exact hx.report _
    all_goals exact State.Ordered.report (State.Ordered.markDirty (hx.of_dirty) _) _
  case feedSetup => exact State.Ordered.startWrite (State.Ordered.markDirty (ho.of_dirty) _)
  case buyRefused passed => exact (ho.passed passed).report _
  case buy passed _ _ _ =>
    have hx := ho.passed passed
    unfold State.acceptBuy
    dsimp only
    split_ifs
    · exact State.Ordered.report (State.Ordered.latch (State.Ordered.markDirty (State.Ordered.markDirty
        hx.of_dirty _) _) _) _
    · exact State.Ordered.report (State.Ordered.markDirty (State.Ordered.markDirty hx.of_dirty _) _) _
  all_goals exact hs.of_ss

theorem State.Ordered.parentalMinute {s : State} (h : s.Ordered) : s.parentalMinute.Ordered := by
  unfold State.parentalMinute
  exact (h.setPinRecord _).of_dirty

theorem State.Ordered.purchaseMinute {s : State} (h : s.Ordered) : s.purchaseMinute.Ordered := by
  unfold State.purchaseMinute
  exact State.Ordered.markSlots (h.of_dirty) _

theorem State.Ordered.minuteEvent {s : State} (h : s.Ordered) : s.minuteEvent.Writing := by
  unfold State.minuteEvent
  exact State.Ordered.report (State.Ordered.purchaseMinute (State.Ordered.parentalMinute (h.of_dirty))) _

theorem Taking.writing {c : Instr} {s x : State} (h : Taking c s x) (hs : s.Writing) : x.Writing := by
  have ho := hs.ordered
  cases h
  case ignored => exact hs
  case time c _ _ =>
    obtain ⟨-, -, -, h⟩ | h | h := s.takeTime_cases _ <;> rw [h]
    · exact hs.of_ss
    · exact State.Ordered.minuteEvent ho.of_dirty
    · exact State.Ordered.minuteEvent (State.Ordered.latch ho.of_dirty _)
  case map g _ _ _ _ =>
    obtain ⟨-, h⟩ | ⟨-, -, h⟩ | ⟨-, -, h⟩ := s.takeSegment_cases g <;> rw [h]
    · exact hs
    · unfold State.commitMap
      exact State.Ordered.finish (State.Ordered.of_dirty (ho.markDirty .map) (by simp)) _ _
    · exact hs.of_ss
  case guide =>
    unfold State.takeGuide
    dsimp only
    split_ifs
    · exact State.Ordered.report (State.Ordered.latch ho.of_dirty _) _
    · exact State.Ordered.report ho.of_dirty _
  case entitlements =>
    unfold State.takeEntitlements
    exact State.Ordered.report (State.Ordered.latch (State.Ordered.markDirty ho.of_dirty _) _) _
  case purack n =>
    unfold State.takePurack
    dsimp only
    split_ifs
    · exact State.Ordered.report (State.Ordered.markDirty (State.Ordered.markSlots ho.of_dirty _) _) _
    · exact State.Ordered.report (State.Ordered.markSlots ho.of_dirty _) _
    · exact State.Ordered.report (State.Ordered.latch (State.Ordered.markDirty
        (State.Ordered.markSlots ho.of_dirty _) _) _) _
    · exact State.Ordered.report (State.Ordered.latch (State.Ordered.markSlots ho.of_dirty _) _) _
  case group => exact State.Ordered.startWrite (State.Ordered.markDirty ho.of_dirty _)
  case master => exact State.Ordered.startWrite (State.Ordered.markDirty ho.of_dirty _)
  case pinreset =>
    unfold State.pinReset
    dsimp only
    exact State.Ordered.report (State.Ordered.endPasses (ho.setPinRecord _)) _

theorem State.Ordered.completePurchase {s : State} (h : s.Ordered) (k : SlotId) (p : Option Purchase) :
    (s.completePurchase k p).Writing := by
  unfold State.completePurchase
  split
  · split_ifs
    · exact State.Ordered.report (State.Ordered.latch (h.of_dirty) _) _
    · exact h.report _
  · exact h.report _

theorem State.Ordered.completeWrite {s : State} (h : s.Ordered) (c : Content) : (s.completeWrite c).Writing := by
  unfold State.completeWrite
  split
  · exact State.Ordered.completePurchase h.of_dirty _ _
  · exact State.Ordered.startWrite h.of_dirty

theorem State.Ordered.endLoad {s : State} (h : s.Ordered) : s.endLoad.Writing := by
  unfold State.endLoad
  exact (State.Ordered.startWrite (State.Ordered.latch (State.Ordered.markSlots
    (State.Ordered.of_dirty (t := s.takeRecords) h) _) _)).of_ss

theorem State.Writing.fresh {s t : State} (h : s.Fresh t) : t.Writing := by
  refine ⟨⟨?_⟩, fun _ => ?_⟩ <;> rw [h.ss]
  exact .nil

theorem Does.writing {c : Instr} {s t : State} (h : Does c s t) (hs : s.Writing) : t.Writing := by
  have ho := hs.ordered
  cases h
  case powerOn => exact .fresh (s.resetAll_isFresh _ _)
  case powerLoss => exact .fresh s.losePower_isFresh
  case assertReset => rw [s.assertReset_rest.rest]; exact ⟨⟨.nil⟩, fun _ => rfl⟩
  case releaseReset => exact .fresh (s.resetAll_isFresh _ _)
  case restart => exact .fresh (State.resetAll_isFresh _ _ _)
  case loadEnd => exact ho.endLoad
  case minute => exact State.Ordered.minuteEvent ho.of_dirty
  case serves does => exact (does.writing hs.of_ss).of_ss
  case takes does => exact does.writing hs.of_ss
  case edgeOpen => rw [State.edge_frame]; exact hs.of_ss
  case tunerMoves => exact State.Ordered.finish ho.of_dirty _ _
  case tunerFaults => exact State.Ordered.finish (State.Ordered.latch ho.of_dirty _) _ _
  case tunerLoads => exact State.Ordered.finish (ho.of_dirty (by simp)) _ _
  case writeDone => exact ho.completeWrite _
  all_goals exact hs.of_ss

/-- Outside a serving part no command starts a write (R206). -/
theorem Does.engine_notRunning {c : Instr} {s t : State} (h : Does c s t)
    (hs : s.phase ≠ .running → s.ss.engine = none) (ht : t.phase ≠ .running) : t.ss.engine = none := by
  cases h with
  | powerOn => rw [(s.resetAll_isFresh _ _).ss]
  | powerLoss => rw [s.losePower_isFresh.ss]
  | assertReset => rw [s.assertReset_rest.rest]
  | releaseReset => rw [(s.resetAll_isFresh _ _).ss]
  | restart => unfold State.restartPart; rw [(State.resetAll_isFresh _ _ _).ss]
  | loadEnd => exact absurd (by simp) ht
  | minute _ h => exact absurd (by simpa using h) ht
  | serves _ x _ _ _ _ _ _ h _ does => exact absurd (does.frame.1.trans h.1) ht
  | takes _ _ _ _ h does => exact absurd (does.frame.1.trans h.1) ht
  | edgeOpen _ _ _ h => rw [State.edge_frame] at ht; exact absurd h ht
  | timeout _ _ h => exact absurd h ht
  | tunerMoves _ _ _ _ h => exact absurd (by simpa using h) ht
  | tunerFaults _ _ _ _ h => exact absurd (by simpa using h) ht
  | tunerLoads _ _ _ _ h => exact absurd (by simpa using h) ht
  | writeDone _ _ h =>
    rw [(State.completeWrite_frame _ s).1] at ht
    rw [hs ht] at h
    cases h
  | _ => exact hs ht

theorem Does.keeps_storeLaw {c : Instr} {s t : State} (h : Does c s t) (hs : s.StoreLaw) : t.StoreLaw := by
  obtain ⟨hord, hwrite, hphase⟩ := hs
  obtain ⟨⟨hord'⟩, hwrite'⟩ := h.writing ⟨⟨hord⟩, hwrite⟩
  exact ⟨hord', hwrite', h.engine_notRunning hphase⟩

/-- Settles O8: joining keeps the order of the dirty set, and each event that marks a record closes with the start
of a write. -/
theorem stepsKeepTheStoreWriting : Obligations.StepsKeepTheStoreWriting := by
  intro s t hs h
  exact step_keeps (P := State.StoreLaw) (fun _ _ h => h) (fun _ _ _ does => does.keeps_storeLaw) hs h

end Sys2Proof.Machine

/-! PROOF. Requests that only answer, and the reset state: what the handler makes of a request where its row
reads the body and leaves the state; and from these O1, O2, O25, O26, O27, O28, O30, O32 and O36. -/

namespace Sys2Proof.Machine

/-! ### Served requests -/

section
variable {α : Type} {c : Instr} {s : State} {r : Request} {rest : List Request} {kind : Byte}
  {read : List Byte → Option α} {f : α → State → Served} {a : α} {st : Status} {body : List Byte}

/-- The state with the request off the queue, in which it is served (R190). -/
def State.unqueued (s : State) (rest : List Request) : State := { s with cl := { s.cl with queue := rest } }

/-- The request's taking touches the queue alone. -/
@[simp] theorem State.unqueued_frame (s : State) (rest : List Request) :
    (s.unqueued rest).phase = s.phase ∧ (s.unqueued rest).hf = s.hf ∧ (s.unqueued rest).tb = s.tb ∧
      (s.unqueued rest).cm = s.cm ∧ (s.unqueued rest).tp = s.tp ∧ (s.unqueued rest).ou = s.ou ∧
      (s.unqueued rest).pg = s.pg ∧ (s.unqueued rest).ep = s.ep ∧ (s.unqueued rest).pc = s.pc ∧
      (s.unqueued rest).ae = s.ae ∧ (s.unqueued rest).ss = s.ss ∧ (s.unqueued rest).pins = s.pins ∧
      (s.unqueued rest).pending = s.pending ∧ (s.unqueued rest).pinState = s.pinState ∧
      (s.unqueued rest).awake = s.awake ∧ (s.unqueued rest).activeOutputs = s.activeOutputs :=
  ⟨rfl, rfl, rfl, rfl, rfl, rfl, rfl, rfl, rfl, rfl, rfl, rfl, rfl, rfl, rfl, rfl⟩

/-- A row that only answers leaves all but the queue and the transmit list. -/
theorem State.Serves.answers (h : s.Serves r rest) (he : exec c s = .next (s.serve kind read f))
    (hk : r.kind = kind) (hr : read r.body = some a)
    (hf : f a (s.unqueued rest) = ⟨s.unqueued rest, st, body⟩) :
    exec c s = .next (s.answered r rest st body) := by
  rw [he, State.serve_answers h hk hr hf]

theorem State.Serves.badLength (h : s.Serves r rest) (he : exec c s = .next (s.serve kind read f))
    (hk : r.kind = kind) (hr : read r.body = none) : exec c s = .next (s.answered r rest .badLength []) := by
  rw [he, State.serve_badLength h hk f hr]

/-- A row with an effect leaves what its serving leaves, with the reply at the list's end. -/
theorem State.Serves.served (h : s.Serves r rest) (he : exec c s = .next (s.serve kind read f))
    (hk : r.kind = kind) (hr : read r.body = some a) {x : State} (hf : f a (s.unqueued rest) = ⟨x, st, body⟩) :
    exec c s = .next (x.pushReply ⟨r.kind ||| 0x80, r.tag, st, body⟩) := by
  rw [he, State.serve_of h hk hr]
  unfold State.unqueued at hf
  rw [hf]

end

/-! ### Reading a body (R190) -/

theorem readNone_nil : readNone [] = some () := rfl

theorem readNone_eq_none {l : List Byte} (h : l.length ≠ 0) : readNone l = none := by
  rw [readNone, if_neg (by simpa using h)]

theorem readOne_eq_none {n : Nat} {l : List Byte} (h : l.length ≠ n) : readOne n l = none := if_neg h

theorem readTwo_eq_none {m n : Nat} {l : List Byte} (h : l.length ≠ m + n) : readTwo m n l = none := if_neg h

theorem readThree_eq_none {k m n : Nat} {l : List Byte} (h : l.length ≠ k + m + n) : readThree k m n l = none :=
  if_neg h

theorem readOne_eq (l : List Byte) : readOne l.length l = some (beNat l) := if_pos rfl

theorem readTwo_eq (a b : List Byte) : readTwo a.length b.length (a ++ b) = some (beNat a, beNat b) := by
  simp [readTwo]

theorem readThree_eq (a b c : List Byte) :
    readThree a.length b.length c.length (a ++ b ++ c) = some (beNat a, beNat b, beNat c) := by
  have hlast : (a ++ b ++ c).drop (a.length + b.length) = c := by
    rw [← List.length_append, List.drop_left]
  rw [readThree, if_pos (by simp [Nat.add_assoc]), hlast]
  simp

/-! ### Numbers and their bytes (R192) -/

theorem beNat_u8 {n : Nat} (h : n < 256) : beNat (u8 n) = n := by
  simp only [u8, toByte, beNat, List.foldl_cons, List.foldl_nil, BitVec.toNat_ofNat]
  omega

theorem beNat_u16 {n : Nat} (h : n < 65536) : beNat (u16 n) = n := by
  simp only [u16, toByte, beNat, List.foldl_cons, List.foldl_nil, BitVec.toNat_ofNat]
  omega

theorem beNat_u24 {n : Nat} (h : n < 16777216) : beNat (u24 n) = n := by
  simp only [u24, toByte, beNat, List.foldl_cons, List.foldl_nil, BitVec.toNat_ofNat]
  omega

theorem beNat_u32 {n : Nat} (h : n < 4294967296) : beNat (u32 n) = n := by
  simp only [u32, toByte, beNat, List.foldl_cons, List.foldl_nil, BitVec.toNat_ofNat]
  omega

theorem beNat_singleton (b : Byte) : beNat [b] = b.toNat := by
  simp [beNat]

/-! ### O1 and O2 -/

/-- Settles O1: the step's equation at a queue with a front. -/
theorem stepTakesTheFrontCommand : Obligations.StepTakesTheFrontCommand := fun _ _ _ => rfl

/-- Without records, every number of the purchases' laws is the default's (R205). -/
theorem State.reset_purchaseLaw : State.reset.PurchaseLaw := by
  have slots (k : SlotId) : readRecord State.reset.ss.records.slots[k] = none := by
    simp [State.reset]
  refine ⟨by decide, ⟨by decide, fun k => ?_, fun j k _ => ?_⟩, by simp [State.reset], by decide, fun _ => rfl⟩
  · rw [slots]; simp
  · rw [slots]; simp

theorem State.reset_mapLaw : State.reset.MapLaw :=
  
  ⟨Lineup.law_blank, by simp [State.reset], by simp [State.reset], by simp [State.reset]⟩

/-- Settles O2, law by law. -/
theorem resetStateKeepsEveryLaw : Obligations.ResetStateKeepsEveryLaw :=
  ⟨by decide, by decide, by decide, by decide, by decide, by decide, State.reset_purchaseLaw,
    State.reset_mapLaw, by decide, by decide, by decide⟩

end Sys2Proof.Machine

/-! PROOF. The PIN fields of request bodies, and the refusals of the handler: O25 and O26. -/

namespace Sys2Proof.Machine

/-! ### PIN fields and lists (chapter 10) -/

theorem readPin_eq_some {l r : List Byte} {d : List Nat} :
    readPin l = some (d, r) ↔
      ∃ (n : Byte) (ds : List Byte), l = n :: (ds ++ r) ∧ ds.length = n.toNat ∧ d = ds.map BitVec.toNat := by
  cases l with
  | nil => simp [readPin]
  | cons n l =>
    simp only [readPin, Option.map_eq_some_iff, Prod.mk.injEq, Prod.exists, cut_eq_some, List.cons.injEq]
    constructor
    · rintro ⟨ds, _, ⟨hlen, rfl⟩, rfl, rfl⟩
      exact ⟨n, ds, ⟨rfl, rfl⟩, hlen, rfl⟩
    · rintro ⟨_, ds, ⟨rfl, rfl⟩, hlen, rfl⟩
      exact ⟨ds, r, ⟨hlen, rfl⟩, rfl, rfl⟩

/-- A PIN field is read back as it was written (R128). -/
theorem readPin_pinField {d : List Nat} (h : PinBytes d) (r : List Byte) : readPin (pinField d ++ r) = some (d, r) := by
  refine readPin_eq_some.2 ⟨BitVec.ofNat 8 d.length, d.map (BitVec.ofNat 8), rfl, ?_, ?_⟩
  · rw [List.length_map, BitVec.toNat_ofNat, Nat.mod_eq_of_lt h.1]
  · rw [List.map_map]
    refine (List.map_id d).symm.trans (List.map_congr_left fun x hx => ?_)
    simp [Nat.mod_eq_of_lt (h.2 x hx)]

theorem PinForm.bytes {d : List Nat} (h : PinForm d) : PinBytes d := by
  obtain rfl | ⟨-, hlen, hd⟩ := h
  · exact ⟨by decide, by simp⟩
  · exact ⟨by omega, fun x hx => by have := hd x hx; omega⟩

theorem pinFormOk_iff {d : List Nat} : pinFormOk d = true ↔ PinForm d := by
  simp [pinFormOk, PinForm, and_assoc]

theorem newPinOk_iff {d : List Nat} : newPinOk d = true ↔ d.length = 4 ∧ ∀ x ∈ d, x ≤ 9 := by
  simp [newPinOk]

theorem readNat_one (b : Byte) (l : List Byte) : readNat 1 (b :: l) = some (b.toNat, l) := by
  simp [readNat, cut, beNat]

theorem readBuy_pinField {d : List Nat} (h : PinBytes d) (b : Byte) :
    readBuy (b :: pinField d) = some ⟨b.toNat, d⟩ := by
  have hd := readPin_pinField h []
  rw [List.append_nil] at hd
  simp only [readBuy, readNat_one, hd]

theorem readPinClear_pinField {d : List Nat} (h : PinBytes d) : readPinClear (pinField d) = some d := by
  have hd := readPin_pinField h []
  rw [List.append_nil] at hd
  simp only [readPinClear, hd]

theorem readPinSet_pinField {n d : List Nat} (hn : PinBytes n) (hd : PinBytes d) :
    readPinSet (pinField n ++ pinField d) = some ⟨n, d⟩ := by
  have hd := readPin_pinField hd []
  rw [List.append_nil] at hd
  simp only [readPinSet, readPin_pinField hn, hd]

theorem readTwoAndPin_pinField {d : List Nat} (h : PinBytes d) (a b : Byte) :
    readTwoAndPin ([a, b] ++ pinField d) = some ⟨a.toNat, b.toNat, d⟩ := by
  have hd := readPin_pinField h []
  rw [List.append_nil] at hd
  simp only [readTwoAndPin, List.cons_append, List.nil_append, hd]

/-! ### Bodies that do not fit their kind (R190 step 2) -/

theorem readPin_last {l : List Byte} {d : List Nat} (h : readPin l = some (d, [])) :
    ∃ (n : Byte) (ds : List Byte), l = n :: ds ∧ ds.length = n.toNat := by
  obtain ⟨n, ds, rfl, hlen, -⟩ := readPin_eq_some.1 h
  exact ⟨n, ds, by rw [List.append_nil], hlen⟩

theorem readBuy_fits {l : List Byte} {f : BuyFields} (h : readBuy l = some f) :
    ∃ o n d, l = o :: n :: d ∧ d.length = n.toNat := by
  cases l with
  | nil => cases h
  | cons o l =>
    simp only [readBuy, readNat_one] at h
    split at h
    · rename_i hr
      obtain ⟨n, ds, rfl, hlen⟩ := readPin_last hr
      exact ⟨o, n, ds, rfl, hlen⟩
    · cases h

theorem readPinClear_fits {l : List Byte} {d : List Nat} (h : readPinClear l = some d) :
    ∃ n d, l = n :: d ∧ d.length = n.toNat := by
  unfold readPinClear at h
  split at h
  · exact readPin_last ‹_›
  · cases h

theorem readTwoAndPin_fits {l : List Byte} {f : TwoAndPin} (h : readTwoAndPin l = some f) :
    ∃ a b n d, l = a :: b :: n :: d ∧ d.length = n.toNat := by
  unfold readTwoAndPin at h
  split at h
  · rename_i a b r
    split at h
    · rename_i hr
      obtain ⟨n, ds, rfl, hlen⟩ := readPin_last hr
      exact ⟨a, b, n, ds, rfl, hlen⟩
    · cases h
  · cases h

theorem readPinSet_fits {l : List Byte} {f : PinSetFields} (h : readPinSet l = some f) :
    ∃ n d m c, l = n :: (d ++ m :: c) ∧ d.length = n.toNat ∧ c.length = m.toNat := by
  unfold readPinSet at h
  split at h
  · cases h
  · rename_i hfirst
    split at h
    · rename_i hr
      obtain ⟨n, ds, rfl, hn, -⟩ := readPin_eq_some.1 hfirst
      obtain ⟨m, cs, rfl, hm⟩ := readPin_last hr
      exact ⟨n, ds, m, cs, rfl, hn, hm⟩
    · cases h

theorem readMany_readNat_fits {w k : Nat} {l r : List Byte} {ns : List Nat}
    (h : readMany (readNat w) k l = some (ns, r)) : ∃ bs, l = bs ++ r ∧ bs.length = w * k := by
  induction k generalizing l ns with
  | zero => cases h; exact ⟨[], rfl, rfl⟩
  | succ k ih =>
    unfold readMany at h
    split at h
    · cases h
    · rename_i n rest hn
      obtain ⟨⟨ns', r'⟩, hrest, heq⟩ := Option.map_eq_some_iff.1 h
      cases heq
      obtain ⟨⟨front, rest'⟩, hcut, heq⟩ := Option.map_eq_some_iff.1 hn
      cases heq
      obtain ⟨hlen, rfl⟩ := cut_eq_some.1 hcut
      obtain ⟨bs, rfl, hbs⟩ := ih hrest
      exact ⟨front ++ bs, by rw [List.append_assoc], by rw [List.length_append, hlen, hbs]; ring⟩

theorem readProfileSet_fits {l : List Byte} {f : ProfileSetFields} (h : readProfileSet l = some f) :
    ∃ h k cs n d, l = h ++ k :: (cs ++ n :: d) ∧ h.length = 10 ∧ cs.length = 2 * k.toNat ∧
      d.length = n.toNat := by
  unfold readProfileSet at h
  split at h
  · rename_i p c u fl b w f1 f0 t1 t0 k r
    split at h
    · cases h
    · rename_i hmany
      split at h
      · rename_i hr
        obtain ⟨cs, rfl, hcs⟩ := readMany_readNat_fits hmany
        obtain ⟨n, ds, rfl, hn⟩ := readPin_last hr
        exact ⟨[p, c, u, fl, b, w, f1, f0, t1, t0], k, cs, n, ds, rfl, rfl, hcs, hn⟩
      · cases h
  · cases h

theorem read_eq_none {α : Type} {read : List Byte → Option α} {l : List Byte} {P : Prop} (hP : ¬P)
    (fits : ∀ a, read l = some a → P) : read l = none :=
  Option.eq_none_iff_forall_ne_some.2 fun a ha => hP (fits a ha)

/-! ### O25 and O26 -/

/-- Settles O25: a reply that is not RESTART's own leaves the list, and its frame stands on the wire. -/
theorem repliesLeaveInOrder : Obligations.RepliesLeaveInOrder := by
  intro s r rest hs oldest other
  have notOwn : s.cl.isRestartReply r = false := by
    simp only [ControlLink.isRestartReply, Bool.and_eq_false_iff, beq_eq_false_iff_ne, ne_eq, or_assoc]
    exact other
  change execReplySent s = _
  rw [execReplySent, if_pos (State.linkAlive_iff.2 hs)]
  simp only [State.replySent, oldest, notOwn, Bool.false_eq_true, if_false]
  rfl

/-- Settles O26, row by row. -/
theorem unknownKindsAndBadLengthsAreRefused : Obligations.UnknownKindsAndBadLengthsAreRefused := by
  intro s r rest h
  refine ⟨fun hk => ?unknown, ?lengths, fun hk hl => h.badLength rfl hk (read_eq_none hl fun _ => readBuy_fits),
    fun hk hl => h.badLength rfl hk (read_eq_none hl fun _ => readPinClear_fits),
    fun hk hl => h.badLength rfl hk (read_eq_none hl fun _ => readTwoAndPin_fits),
    fun hk hl => h.badLength rfl hk (read_eq_none hl fun _ => readTwoAndPin_fits),
    fun hk hl => h.badLength rfl hk (read_eq_none hl fun _ => readPinSet_fits),
    fun hk hl => h.badLength rfl hk (read_eq_none hl fun _ => readProfileSet_fits)⟩
  case unknown =>
    refine congrArg Host.Outcome.next (State.serveIf_answers h ?_ rfl)
    simpa [requestKinds] using hk
  case lengths =>
    simp only [List.forall_mem_cons, List.not_mem_nil, false_imp_iff, implies_true, and_true]
    exact ⟨fun hk hl => h.badLength rfl hk (readNone_eq_none hl),
      fun hk hl => h.badLength rfl hk (readNone_eq_none hl),
      fun hk hl => h.badLength rfl hk (readNone_eq_none hl),
      fun hk hl => h.badLength rfl hk (readOne_eq_none hl),
      fun hk hl => h.badLength rfl hk (readNone_eq_none hl),
      fun hk hl => h.badLength rfl hk (readNone_eq_none hl),
      fun hk hl => h.badLength rfl hk (readNone_eq_none hl),
      fun hk hl => h.badLength rfl hk (readTwo_eq_none hl),
      fun hk hl => h.badLength rfl hk (readTwo_eq_none hl),
      fun hk hl => h.badLength rfl hk (readOne_eq_none hl),
      fun hk hl => h.badLength rfl hk (readOne_eq_none hl),
      fun hk hl => h.badLength rfl hk (readOne_eq_none hl),
      fun hk hl => h.badLength rfl hk (readTwo_eq_none hl),
      fun hk hl => h.badLength rfl hk (readThree_eq_none hl),
      fun hk hl => h.badLength rfl hk (readTwo_eq_none hl),
      fun hk hl => h.badLength rfl hk (readTwo_eq_none hl),
      fun hk hl => h.badLength rfl hk (readNone_eq_none hl),
      fun hk hl => h.badLength rfl hk (readNone_eq_none hl),
      fun hk hl => h.badLength rfl hk (readOne_eq_none hl),
      fun hk hl => h.badLength rfl hk (readThree_eq_none hl)⟩

end Sys2Proof.Machine

/-! PROOF. Queries, notices and the refusals of SELECT and STEP: O27, O28, O30, O31, O32 and O36. -/

namespace Sys2Proof.Machine

/-! ### One-byte operands -/

theorem readOne_byte (b : Byte) : readOne 1 [b] = some b.toNat := by
  have hread := readOne_eq [b]
  rw [beNat_singleton] at hread
  exact hread

theorem readTwo_bytes (a b : Byte) : readTwo 1 1 [a, b] = some (a.toNat, b.toNat) := by
  simp [readTwo, beNat]

theorem readTwo_select {b : Byte} {ch : Nat} (h : ch < 65536) : readTwo 1 2 (b :: u16 ch) = some (b.toNat, ch) := by
  have hread := readTwo_eq [b] (u16 ch)
  rw [beNat_u16 h, beNat_singleton] at hread
  exact hread

theorem readTwo_words {a b : Nat} (ha : a < 65536) (hb : b < 65536) :
    readTwo 2 2 (u16 a ++ u16 b) = some (a, b) := by
  have hread := readTwo_eq (u16 a) (u16 b)
  rw [beNat_u16 ha, beNat_u16 hb] at hread
  exact hread

theorem toNat_ofNat_byte {n : Nat} (h : n < 256) : (BitVec.ofNat 8 n).toNat = n := by
  rw [BitVec.toNat_ofNat, Nat.mod_eq_of_lt h]

theorem toNat_ofNat_fin {n : Nat} (i : Fin n) (hn : n ≤ 256 := by decide) : (BitVec.ofNat 8 i.val).toNat = i.val :=
  toNat_ofNat_byte (i.isLt.trans_le hn)

theorem readOne_fin {n : Nat} (i : Fin n) (hn : n ≤ 256 := by decide) :
    readOne 1 [BitVec.ofNat 8 i.val] = some i.val := by
  rw [readOne_byte, toNat_ofNat_fin i hn]

/-- A row that only answers, its reply's body given in other terms. -/
theorem State.Serves.replies {α : Type} {c : Instr} {s : State} {r : Request} {rest : List Request} {kind : Byte}
    {read : List Byte → Option α} {f : α → State → Served} {a : α} {st : Status} {fields body : List Byte}
    (h : s.Serves r rest) (he : exec c s = .next (s.serve kind read f)) (hk : r.kind = kind)
    (hr : read r.body = some a) (hf : f a (s.unqueued rest) = ⟨s.unqueued rest, st, body⟩) (hb : body = fields) :
    exec c s = .next (s.answered r rest st fields) := hb ▸ h.answers he hk hr hf

/-! ### O27 and O28 -/

/-- The IDENTITY record as its reader finds it, or its default (R204, R205). -/
def State.identity (s : State) : Identity :=
  (readRecord s.ss.records.identity).getD { unitAddress := 4294967295, revision := 0 }

theorem State.revision_eq (s : State) : s.revision = s.identity.revision := by
  unfold State.revision State.identity
  cases readRecord s.ss.records.identity <;> rfl

theorem State.unitAddress_eq (s : State) : s.unitAddress = s.identity.unitAddress := by
  unfold State.unitAddress State.identity
  cases readRecord s.ss.records.identity <;> rfl

theorem identBody_eq (s : State) :
    identBody s = [0x53, 0x01, 0x54] ++ u8 s.identity.revision ++ u32 s.identity.unitAddress ++
      u16 s.hf.setup.group := by
  unfold identBody
  rw [s.revision_eq, s.unitAddress_eq]
  rfl

/-- The PIN's three values, one field each (R143). -/
theorem pinFields_eq (r : PinRecord) :
    pinFields r =
      (if 0 < r.lockout then ([0x02] : List Byte) else if r.pin = none then [0x00] else [0x01]) ++
        u8 r.attempts ++ u8 r.lockout := by
  unfold pinFields
  split_ifs <;> rfl

theorem clockFields_eq (c : Option WallClock) :
    clockFields c = (match c with
      | none => ([0x00, 0x00, 0x00] : List Byte)
      | some c => [0x01, 0x01] ++ u16 c.day ++ [0x01] ++ u24 c.second) := by
  cases c
  · rfl
  · simp [clockFields]

theorem unitState_u8 (u : UnitState) :
    u8 u.code = (match u with
      | .active => ([0x00] : List Byte)
      | .disconnected => [0x01]) := by
  cases u <;> rfl

theorem opt_u8 (v : Option Nat) :
    opt u8 v = (match v with
      | none => ([0x00] : List Byte)
      | some v => 0x01 :: u8 v) := by
  cases v <;> rfl

/-- STATUS's body, field by field (R194). -/
theorem statusBody_eq (s : State) :
    statusBody s =
      (match s.tb.clock with
        | none => ([0x00, 0x00, 0x00] : List Byte)
        | some c => [0x01, 0x01] ++ u16 c.day ++ [0x01] ++ u24 c.second) ++
      (match s.ep.ent.unitState with
        | .active => ([0x00] : List Byte)
        | .disconnected => [0x01]) ++
      (if 0 < s.pc.record.lockout then ([0x02] : List Byte)
        else if s.pc.record.pin = none then [0x00] else [0x01]) ++
      u8 s.pc.record.attempts ++ u8 s.pc.record.lockout ++
      ([if s.pc.frozen then 0x01 else 0x00] : List Byte) ++
      u16 s.ep.ent.limit ++
      u16 ((s.ep.log.filter fun p => p.state = .pending ∨ p.state = .opened).map Purchase.price).sum ++
      u8 s.ep.log.length ++
      (match s.cm.committed.version with
        | none => ([0x00] : List Byte)
        | some v => 0x01 :: u8 v) ++
      [BitVec.ofNat 8 s.tp.tuners[0].state.code, BitVec.ofNat 8 s.tp.tuners[1].state.code,
        BitVec.ofNat 8 s.tp.tuners[2].state.code,
        BitVec.ofNat 8 s.ae[0].decision.code, BitVec.ofNat 8 s.ae[1].decision.code,
        BitVec.ofNat 8 s.ae[2].decision.code, BitVec.ofNat 8 s.ae[3].decision.code] ++
      u24 s.cl.latches.toNat ++ u16 s.cl.mask.toNat := by
  have states (l : List Byte) : l ++ (allTuners.map fun t => u8 s.tp.tuners[t].state.code).flatten ++
      (allOutputs.map fun o => u8 s.ae[o].decision.code).flatten =
      l ++ [BitVec.ofNat 8 s.tp.tuners[0].state.code, BitVec.ofNat 8 s.tp.tuners[1].state.code,
        BitVec.ofNat 8 s.tp.tuners[2].state.code,
        BitVec.ofNat 8 s.ae[0].decision.code, BitVec.ofNat 8 s.ae[1].decision.code,
        BitVec.ofNat 8 s.ae[2].decision.code, BitVec.ofNat 8 s.ae[3].decision.code] := by
    rw [List.append_assoc]
    rfl
  unfold statusBody
  rw [states, clockBody_eq, pinBody_eq, creditBody_eq, clockFields_eq, unitState_u8, pinFields_eq, opt_u8]
  simp only [State.creditFields, flag, List.append_assoc]

/-- Settles O27: the bodies of the model are the fields of R193 and R194. -/
theorem identAndStatusReplyTheirFields : Obligations.IdentAndStatusReplyTheirFields := by
  intro s r rest h hbody
  have hread : readNone r.body = some () := by rw [hbody]; rfl
  exact ⟨fun hk => ⟨s.identity, readRecord_takes _ _, h.replies rfl hk hread rfl (identBody_eq (s.unqueued rest))⟩,
    fun hk => h.replies rfl hk hread rfl (statusBody_eq (s.unqueued rest))⟩

/-- QUERY OUTPUT's body, with the attachment and the route read off the output's record (R58). -/
theorem outputBody_eq (s : State) (o : OutputId) :
    outputBody s o = [BitVec.ofNat 8 o.val, match s.ou[o].mode with
        | .standby => 0x00
        | .active => 0x01] ++
      opt u16 s.ou[o].channel ++
      (match s.ou[o].attachment with
        | .tuner t sl => [BitVec.ofNat 8 t.val, 0x01, BitVec.ofNat 8 t.val, BitVec.ofNat 8 sl.val]
        | .waiting => [0x03, 0x00]
        | .none => [0x04, 0x00]) ++
      passFields s.pc.passes[o] ++ recordFields s.ae[o] := by
  unfold outputBody State.route
  rw [opt_passBody, decisionBody_eq, List.append_assoc _ (u8 _) (opt _ _)]
  cases s.ou[o].mode <;> cases s.ou[o].attachment <;> rfl

/-- Settles O28: the bodies of the model are the fields of R58, R41, R135 and R88. -/
theorem recordQueriesReplyAndChangeNothing : Obligations.RecordQueriesReplyAndChangeNothing := by
  intro s r rest h
  refine ⟨fun hk => ⟨fun o hb => ?output, fun v hv hb => ?noOutput⟩,
    fun hk => ⟨fun n hb => ?tuner, fun v hv hb => ?noTuner⟩,
    fun hk => ⟨fun p hb => ?profile, fun v hv hb => ?noProfile⟩,
    fun hk service eventId hb hs he => ⟨fun hbad => ?badTitle, fun hs1 hs2 he1 => ⟨fun e hrec => ?title,
      fun hrec => ?noEvent⟩⟩⟩
  case output =>
    exact h.replies rfl hk (hb ▸ readOne_fin o) (dif_pos o.isLt) (outputBody_eq (s.unqueued rest) o)
  case noOutput => exact h.answers rfl hk (hb ▸ readOne_byte v) (dif_neg (by omega))
  case tuner =>
    exact h.replies rfl hk (hb ▸ readOne_fin n) (dif_pos n.isLt) (tunerBody_eq (s.unqueued rest) n)
  case noTuner => exact h.answers rfl hk (hb ▸ readOne_byte v) (dif_neg (by omega))
  case profile =>
    exact h.replies rfl hk (hb ▸ readOne_fin p) (dif_pos p.isLt) (profileBody_eq (s.unqueued rest) p)
  case noProfile => exact h.answers rfl hk (hb ▸ readOne_byte v) (dif_neg (by omega))
  case badTitle => exact h.answers rfl hk (hb ▸ readTwo_words hs he) (if_neg (by simp only; omega))
  case title =>
    refine h.replies rfl hk (hb ▸ readTwo_words hs he) (body := listField (fun c => [c]) e.title) ?_ ?_
    · rw [if_pos ⟨⟨hs1, hs2⟩, he1⟩]
      change (match s.pg.record service eventId with | none => _ | some e => _) = _
      rw [hrec]
    · rw [listField, flatten_singletons, toByte]
  case noEvent =>
    refine h.answers rfl hk (hb ▸ readTwo_words hs he) ?_
    rw [if_pos ⟨⟨hs1, hs2⟩, he1⟩]
    change (match s.pg.record service eventId with | none => _ | some e => _) = _
    rw [hrec]
    rfl

/-! ### QUERY TIERS (O30) -/

/-- Bit `k` of a set's value is whether the set holds `k` (R192). -/
theorem testBit_setValue {l : List Nat} (h : l.Pairwise (· < ·)) (k : Nat) :
    (setValue l).testBit k = true ↔ k ∈ l := by
  rw [← Nat.mem_bitIndices, setValue, Nat.bitIndices_sum_map_two_pow h.sortedLT]

/-- The value of a set of tiers, whose bit `k` is whether tier `k` is in it. -/
theorem getLsbD_setValue_tiers (P : TierId → Bool) (k : TierId) :
    (BitVec.ofNat 64 (setValue ((allTiers.filter P).map (·.val)))).getLsbD k.val = P k := by
  have hsorted : ((allTiers.filter P).map (·.val)).Pairwise (· < ·) :=
    List.Pairwise.map _ (fun _ _ h => h) (List.Pairwise.filter P (List.pairwise_lt_finRange 64))
  rw [BitVec.getLsbD_ofNat, decide_eq_true k.isLt, Bool.true_and, Bool.eq_iff_iff, testBit_setValue hsorted]
  simp [allTiers, Fin.val_inj]

theorem setValue_tiers_lt (P : TierId → Bool) : setValue ((allTiers.filter P).map (·.val)) < 2 ^ 64 := by
  have hsorted : ((allTiers.filter P).map (·.val)).Pairwise (· < ·) :=
    List.Pairwise.map _ (fun _ _ h => h) (List.Pairwise.filter P (List.pairwise_lt_finRange 64))
  refine Nat.lt_pow_two_of_testBit _ fun k hk => ?_
  rw [← Bool.not_eq_true, testBit_setValue hsorted]
  simp only [List.mem_map, not_exists, not_and]
  intro t _ ht
  omega

/-- The field at place `k` of a run of fields of one width. -/
theorem take_drop_flatten {α β : Type} {f : α → List β} {w : Nat} (hf : ∀ a, (f a).length = w) (l : List α)
    {k : Nat} (hk : k < l.length) : (((l.map f).flatten).drop (w * k)).take w = f l[k] := by
  induction l generalizing k with
  | nil => cases hk
  | cons a l ih =>
    cases k with
    | zero => simp [← hf a]
    | succ k =>
      have hdrop : w * (k + 1) = (f a).length + w * k := by rw [hf]; ring
      rw [List.map_cons, List.flatten_cons, hdrop, List.drop_length_add_append]
      exact ih (Nat.lt_of_succ_lt_succ hk)

/-- Settles O30: the sets' values have the tiers' bits, and each expiry day stands in its place. -/
theorem queryTiersRepliesEveryTier : Obligations.QueryTiersRepliesEveryTier := by
  intro s r rest h hk hb
  have hread : readNone r.body = some () := by rw [hb]; rfl
  have hvalue (P : TierId → Bool) :
      (BitVec.ofNat 64 (setValue ((allTiers.filter P).map (·.val)))).toNat =
        setValue ((allTiers.filter P).map (·.val)) := by
    rw [BitVec.toNat_ofNat, Nat.mod_eq_of_lt (setValue_tiers_lt P)]
  refine ⟨BitVec.ofNat 64 (setValue ((allTiers.filter fun t => s.ep.ent.tiers[t].held).map (·.val))),
    BitVec.ofNat 64 (setValue ((allTiers.filter s.tierEffective).map (·.val))),
    (allTiers.map fun t => u16 s.ep.ent.tiers[t].expiry).flatten, ?reply, ?length, fun k => ⟨?held, ?effective, ?day⟩⟩
  case reply => rw [hvalue, hvalue]; exact h.answers rfl hk hread rfl
  case length =>
    have hword : List.length ∘ (fun t : TierId => u16 s.ep.ent.tiers[t].expiry) = fun _ => 2 := rfl
    rw [List.length_flatten, List.map_map, hword]
    simp [allTiers]
  case held => exact getLsbD_setValue_tiers (fun t => s.ep.ent.tiers[t].held) k
  case effective =>
    rw [getLsbD_setValue_tiers s.tierEffective k]
    rfl
  case day =>
    have hplace := take_drop_flatten (f := fun t : TierId => u16 s.ep.ent.tiers[t].expiry) (w := 2) (fun _ => rfl)
      allTiers (k := k.val) (by simp [allTiers])
    simpa [allTiers] using hplace

end Sys2Proof.Machine

/-! PROOF. The notices and the handler's stop (O31, O32), and the refusals of SELECT and STEP (O36). -/

namespace Sys2Proof.Machine

/-! ### The latches (R197 to R200) -/

theorem mem_allNotices (n : Notice) : n ∈ allNotices := by
  cases n with
  | outputState o => fin_cases o <;> simp [allNotices]
  | tunerFault u => fin_cases u <;> simp [allNotices]
  | _ => simp [allNotices]

theorem allNotices_ascend : allNotices.Pairwise fun a b => a.index < b.index := by decide

theorem ControlLink.pendingNotice_iff (c : ControlLink) :
    c.pendingNotice = true ↔ ∃ n, c.isSet n = true ∧ c.unmasked n = true := by
  simp [ControlLink.pendingNotice, mem_allNotices]

/-- ATTN by the phase and the unmasked latches (R199). -/
theorem State.attn_iff (s : State) :
    s.attn = true ↔ (s.phase = .loading ∨ s.phase = .running) ∧ s.cl.pendingNotice = true := by
  unfold State.attn
  split <;> simp [*]

/-- Settles O32: the table by its entries, ATTN by its definition. -/
theorem attnFollowsTheUnmaskedLatches : Obligations.AttnFollowsTheUnmaskedLatches := by
  refine ⟨by decide, by decide, by decide, fun s => ?_⟩
  rw [s.attn_iff, s.cl.pendingNotice_iff]
  rfl

/-- The first notice of the list is the one of lowest index (R200). -/
theorem ControlLink.firstNotice_eq_some {c : ControlLink} {n : Notice} (hset : c.isSet n = true)
    (hopen : c.unmasked n = true)
    (least : ∀ m, c.isSet m = true → c.unmasked m = true → n.index ≤ m.index) : c.firstNotice = some n := by
  unfold ControlLink.firstNotice
  cases hfind : allNotices.find? fun m => c.isSet m && c.unmasked m with
  | none => simpa [hset, hopen] using List.find?_eq_none.1 hfind n (mem_allNotices n)
  | some m =>
    obtain ⟨hm, before, after, hlist, hbefore⟩ := List.find?_eq_some_iff_append.1 hfind
    rw [Bool.and_eq_true] at hm
    have hascend := allNotices_ascend
    rw [hlist, List.pairwise_append, List.pairwise_cons] at hascend
    have hn := mem_allNotices n
    rw [hlist, List.mem_append, List.mem_cons] at hn
    obtain hn | rfl | hn := hn
    · simpa [hset, hopen] using hbefore n hn
    · rfl
    · exact absurd (hascend.2.1.1 n hn) (least m hm.1 hm.2).not_gt

theorem ControlLink.firstNotice_eq_none {c : ControlLink} (h : ∀ m, c.isSet m = false ∨ c.unmasked m = false) :
    c.firstNotice = none := by
  refine List.find?_eq_none.2 fun m _ => ?_
  obtain h | h := h m <;> simp [h]

/-- The more-pending flag of TAKE: some other unmasked latch is set (R200). -/
theorem ControlLink.pendingNotice_clearLatch (c : ControlLink) (n : Notice) :
    (c.clearLatch n).pendingNotice = allNotices.any fun m => m != n && c.isSet m && c.unmasked m := by
  unfold ControlLink.pendingNotice
  congr 1
  funext m
  rw [ControlLink.isSet_clearLatch]
  simp [Bool.and_assoc, ControlLink.clearLatch, ControlLink.unmasked, bne, BEq.beq]

theorem snapshot_unqueued (s : State) (rest : List Request) (n : Notice) :
    snapshot (s.unqueued rest) n = snapshot s n := by
  cases n <;> rfl

/-! ### O31 -/

/-- A request row takes nothing where the handler is stopped, has no request, or has no room (R190, R195). -/
theorem exec_requestRow_idle {c : Instr} {s : State} (row : c ∈ requestRows)
    (h : s.cl.stopped = true ∨ s.cl.queue = [] ∨ 8 ≤ s.cl.transmit.length) : exec c s = .next s := by
  obtain ⟨t, ht, does⟩ := exec_does c s
  suffices t = s by rw [ht, this]
  cases does with
  | nothing => rfl
  | serves _ _ _ _ _ _ _ _ serves =>
    obtain ⟨-, stopped, room, queued⟩ := serves
    obtain h | h | h := h
    · rw [stopped] at h; cases h
    · rw [queued] at h; cases h
    · omega
  | takes _ _ _ takes => exfalso; revert row takes; cases c <;> simp [requestRows, packetRows]
  | tunerMoves _ _ _ _ _ moves => exfalso; revert row moves; cases c <;> simp [requestRows]
  | tunerFaults _ _ _ _ _ moves => exfalso; revert row moves; cases c <;> simp [requestRows]
  | tunerLoads _ _ _ _ _ moves => exfalso; revert row moves; cases c <;> simp [requestRows]
  | _ => simp [requestRows] at row

theorem ofNat_mask (hi lo : Byte) : BitVec.ofNat 12 (beNat [hi, lo]) = (hi ++ lo).setWidth 12 := by
  rw [← ofNat_beNat_pair, BitVec.setWidth_ofNat_of_le (by decide)]

/-- Settles O31: TAKE by the first notice of the list, the rest by what each row makes of the link. -/
theorem maskTakeAndRestartAreServed : Obligations.MaskTakeAndRestartAreServed := by
  refine ⟨fun s c row h => exec_requestRow_idle row h, fun s r rest h =>
    ⟨fun hk hi lo hb => ?mask, fun hk hb => ⟨fun n hset hopen least => ?take, fun hnone => ?none⟩,
      fun hk hb => ?restart⟩⟩
  case mask =>
    have hread : readOne 2 r.body = some (beNat [hi, lo]) := by rw [hb]; exact readOne_eq [hi, lo]
    refine (h.served rfl hk hread rfl).trans ?_
    rw [ofNat_mask]
    rfl
  case take =>
    have hfirst : (s.unqueued rest).cl.firstNotice = some n := ControlLink.firstNotice_eq_some hset hopen least
    have htake : (s.unqueued rest).takeNotice = ⟨{ s.unqueued rest with cl := (s.unqueued rest).cl.clearLatch n }, .ok,
        u8 n.kind ++ u8 n.subject ++ flag (allNotices.any fun m => m != n && s.cl.isSet m && s.cl.unmasked m) ++
          s.noticeFields n⟩ := by
      rw [State.takeNotice, hfirst, ← snapshot_eq, ← snapshot_unqueued s rest]
      simp only [ControlLink.pendingNotice_clearLatch]
      rfl
    exact (h.served rfl hk (hb ▸ readNone_nil) htake).trans rfl
  case none =>
    have hfirst : (s.unqueued rest).cl.firstNotice = Option.none := ControlLink.firstNotice_eq_none hnone
    refine h.answers rfl hk (hb ▸ readNone_nil) ?_
    rw [State.takeNotice, hfirst]
    rfl
  case restart => exact (h.served rfl hk (hb ▸ readNone_nil) rfl).trans rfl

/-! ### O36 -/

theorem State.awake_iff (s : State) : s.awake = true ↔ ∃ o : OutputId, s.ou[o].mode = .active := by
  simp only [State.awake, allOutputs, List.any_eq_true, State.isActive, beq_iff_eq]
  constructor
  · rintro ⟨o, -, h⟩; exact ⟨o, h⟩
  · rintro ⟨o, h⟩
    refine ⟨o, ?_, h⟩
    fin_cases o <;> simp

theorem State.awake_eq_false {s : State} (h : ∀ o : OutputId, s.ou[o].mode = .standby) : s.awake = false := by
  rw [← Bool.not_eq_true, s.awake_iff]
  rintro ⟨o, ho⟩
  rw [h o] at ho
  cases ho

/-- Settles O36, check by check. -/
theorem selectAndStepRefuseInOrder : Obligations.SelectAndStepRefuseInOrder := by
  intro s r rest h
  refine ⟨fun hk o ch hb hch => ⟨fun hbad => ?badSelect, fun h1 h2 ho => ⟨fun hasleep => ?selectStandby,
      fun hactive => ⟨fun hres => ?noChannel, fun e hres hsame => ?same⟩⟩⟩,
    fun hk o d hb => ⟨fun hbad => ?badStep, fun ho hd hasleep => ?stepStandby⟩⟩
  case badSelect =>
    refine h.answers rfl hk (hb ▸ readTwo_select hch) ?_
    by_cases ho : o.toNat < 4
    · rw [dif_pos ho, if_neg (by simp only; omega)]; rfl
    · rw [dif_neg ho]; rfl
  case selectStandby =>
    refine h.answers rfl hk (hb ▸ readTwo_select hch) ?_
    have hawake : (s.unqueued rest).awake = false := State.awake_eq_false hasleep
    rw [dif_pos ho, if_pos ⟨h1, h2⟩, State.selectChannel, hawake]
    rfl
  case noChannel =>
    refine h.answers rfl hk (hb ▸ readTwo_select hch) ?_
    have hawake : (s.unqueued rest).awake = true := (s.unqueued rest).awake_iff.2 hactive
    have hnone : (s.unqueued rest).cm.committed.resolve ch = Option.none := hres
    rw [dif_pos ho, if_pos ⟨h1, h2⟩, State.selectChannel, hawake, hnone]
    rfl
  case same =>
    refine h.answers rfl hk (hb ▸ readTwo_select hch) ?_
    have hawake : (s.unqueued rest).awake = true := (s.unqueued rest).awake_iff.2 hactive
    have hsome : (s.unqueued rest).cm.committed.resolve ch = some e := hres
    have hentry : (s.unqueued rest).selectEntry ⟨o.toNat, ho⟩ e = (s.unqueued rest, .ok) :=
      if_pos (hsame.trans (congrArg some (Lineup.mem_of_resolve hres).2.symm))
    rw [dif_pos ho, if_pos ⟨h1, h2⟩, State.selectChannel, hawake, hsome]
    simp only [Bool.not_true, Bool.false_eq_true, if_false, hentry]
    rfl
  case badStep =>
    refine h.answers rfl hk (hb ▸ readTwo_bytes o d) ?_
    by_cases ho : o.toNat < 4
    · have hd : Direction.ofCode d.toNat = Option.none := by
        unfold Direction.ofCode
        split <;> [omega; omega; rfl]
      simp only [dif_pos ho, hd]
      rfl
    · rw [dif_neg ho]; rfl
  case stepStandby =>
    have hawake : (s.unqueued rest).awake = false := State.awake_eq_false hasleep
    obtain ⟨dir, hdir⟩ : ∃ dir, Direction.ofCode d.toNat = some dir := by
      interval_cases d.toNat <;> simp [Direction.ofCode]
    refine h.answers rfl hk (hb ▸ readTwo_bytes o d) ?_
    simp only [dif_pos ho, hdir, State.stepChannel, hawake]
    rfl

end Sys2Proof.Machine

/-! PROOF. The close of an event across the records it marks and the reply it is answered with; and which records
await their writes after it. The rules that the obligations on requests and packets use. -/

namespace Sys2Proof.Machine

/-! ### Records marked dirty -/

theorem State.Dirties.closes {m m' t : State} (d : m.Dirties m') (h : m'.Closes t) : m.Closes t := by
  have e := d.rest
  generalize m'.ss.dirty = l at e
  subst e
  exact h

theorem State.markDirty_dirties (r : RecordId) (m : State) : m.Dirties (m.markDirty r) := ⟨rfl⟩

theorem State.Dirties.latch {m m' : State} (d : m.Dirties m') (n : Notice) : (m.latch n).Dirties (m'.latch n) := by
  have e := d.rest
  generalize m'.ss.dirty = l at e
  subst e
  exact ⟨rfl⟩

/-- The PIN record is replaced, and its record marked where that changes it (R124). -/
theorem State.setPinRecord_dirties (r : PinRecord) (m : State) :
    ({ m with pc := { m.pc with record := r } } : State).Dirties (m.setPinRecord r) := by
  unfold State.setPinRecord
  dsimp only
  split_ifs <;> exact ⟨rfl⟩

theorem State.mem_dirty_setPinRecord {r : PinRecord} {m : State} (h : r ≠ m.pc.record) :
    .pin ∈ (m.setPinRecord r).ss.dirty := by
  unfold State.setPinRecord
  rw [if_neg h]
  exact mem_joinDirty.2 (.inl rfl)

theorem State.mem_dirty_setPinRecord_of_mem {r : PinRecord} {m : State} {q : RecordId} (h : q ∈ m.ss.dirty) :
    q ∈ (m.setPinRecord r).ss.dirty := by
  unfold State.setPinRecord
  dsimp only
  split_ifs
  · exact h
  · exact mem_joinDirty.2 (.inr h)

theorem State.mem_dirty_markSlots {m : State} {ps : List Purchase} {q : RecordId} :
    q ∈ (m.markSlots ps).ss.dirty ↔ (∃ p ∈ ps, q = .slot p.slot) ∨ q ∈ m.ss.dirty := by
  unfold State.markSlots
  induction ps generalizing m with
  | nil => simp
  | cons p ps ih =>
    rw [List.foldl_cons, ih, State.markDirty_ss, mem_joinDirty, List.exists_mem_cons_iff]
    exact or_left_comm.trans or_assoc.symm

/-! ### Records that await their writes (R207, R208) -/

theorem State.awaitsWrite_report {m : State} {r : RecordId} {os : List OutputId} (h : r ∈ m.ss.dirty)
    (hr : r ≠ .sequence) : (m.report os).awaitsWrite r := by
  refine State.awaitsWrite_startWrite ?_ hr
  rw [(m.evaluateAll_evaluates os).rest]
  exact h

theorem State.awaitsWrite_finish {old m : State} {r : RecordId} {os : List OutputId} (h : r ∈ m.ss.dirty)
    (hr : r ≠ .sequence) : (State.finish old os m).awaitsWrite r := by
  refine State.awaitsWrite_report ?_ hr
  rw [(State.loadRoutes_pinsOnly old m).rest]
  exact h

theorem State.awaitsSequence_startWrite {m : State} (h : .sequence ∈ m.ss.dirty) :
    m.startWrite.awaitsSequence := by
  rcases m.startWrite_cases with ⟨e, -⟩ | ⟨q, rest, -, hd, e⟩
  · exact .inl (by rw [e]; exact h)
  · rw [hd] at h
    by_cases hq : ∃ k, q = .slot k
    · obtain ⟨k, rfl⟩ := hq
      exact .inr ⟨_, by rw [e], by rw [e]; rfl⟩
    · obtain rfl | h := List.mem_cons.1 h
      · exact .inr ⟨_, by rw [e], by rw [e]; rfl⟩
      · exact .inl (by rw [e]; exact mem_dirtyAfterStart.2 ⟨h, fun k => hq k.2⟩)

theorem State.awaitsSequence_report {m : State} {os : List OutputId} (h : .sequence ∈ m.ss.dirty) :
    (m.report os).awaitsSequence := by
  refine State.awaitsSequence_startWrite ?_
  rw [(m.evaluateAll_evaluates os).rest]
  exact h

/-! ### Rooms decided (R158) -/

theorem State.mem_allOutputs (o : OutputId) : o ∈ allOutputs := by
  fin_cases o <;> simp [allOutputs]

theorem State.mem_activeOutputs {s : State} {o : OutputId} : o ∈ s.activeOutputs ↔ s.ou[o].mode = .active := by
  simp [State.activeOutputs, State.isActive, State.mem_allOutputs]

theorem State.mem_outputsOn {s : State} {o : OutputId} {service : Nat} :
    o ∈ s.outputsOn service ↔ s.ou[o].mode = .active ∧ s.ou[o].channel = some service := by
  simp [State.outputsOn, State.mem_activeOutputs]

/-- A close that evaluates the ACTIVE outputs decides every room. -/
theorem State.report_roomsDecided {m : State} {os : List OutputId} (h : ∀ o, o ∈ m.activeOutputs → o ∈ os) :
    (m.report os).RoomsDecided := by
  intro o active
  refine m.report_evaluated os o (h o (State.mem_activeOutputs.2 ?_))
  rw [(m.report_closes os).alike.ou] at active
  exact active

/-- The same of the outputs that were ACTIVE before the event. -/
theorem State.report_active_roomsDecided {m s : State} (h : m.ou = s.ou) :
    (m.report s.activeOutputs).RoomsDecided := by
  refine State.report_roomsDecided fun o ho => ?_
  rw [State.mem_activeOutputs] at ho ⊢
  rwa [h] at ho

theorem State.Dirties.ou {m m' : State} (d : m.Dirties m') : m'.ou = m.ou := by rw [d.rest]

/-! ### The reply (R191) -/

section
variable {m t : State} (p : Reply)

theorem State.Closes.pushReply (h : m.Closes t) : (m.pushReply p).Closes (t.pushReply p) := by
  obtain ⟨rest, passes, kept, others, wave⟩ := h
  refine ⟨?_, passes, kept, others, wave⟩
  rw [rest]
  rfl

theorem State.Evaluated.pushReply {o : OutputId} (h : t.Evaluated o) : (t.pushReply p).Evaluated o := h

theorem State.awaitsWrite.pushReply {r : RecordId} (h : t.awaitsWrite r) : (t.pushReply p).awaitsWrite r := by
  obtain h | h := h
  · exact .inl h
  · exact .inr (h.trans (by cases r <;> rfl))

theorem State.awaitsSequence.pushReply (h : t.awaitsSequence) : (t.pushReply p).awaitsSequence := h

theorem State.RoomsDecided.pushReply (h : t.RoomsDecided) : (t.pushReply p).RoomsDecided := h

end

/-! ### An event that only starts a write -/

/-- The start of a write leaves all but the dirty set and the engine, whatever has been marked. -/
theorem State.Dirties.startWrite {m m' : State} (d : m.Dirties m') :
    m'.startWrite = { m with ss := { m.ss with dirty := m'.startWrite.ss.dirty,
                                               engine := m'.startWrite.ss.engine } } := by
  have e := m'.startWrite_rest
  have e' := d.rest
  generalize m'.startWrite.ss.dirty = a at e ⊢
  generalize m'.startWrite.ss.engine = b at e ⊢
  rw [e, e']

theorem State.Dirties.startWrite_pushReply {m m' : State} (d : m.Dirties m') (p : Reply) :
    m'.startWrite.pushReply p = { m.pushReply p with ss := { m.ss with
      dirty := (m'.startWrite.pushReply p).ss.dirty, engine := (m'.startWrite.pushReply p).ss.engine } } := by
  have e := d.startWrite
  rw [State.pushReply_ss]
  generalize m'.startWrite.ss.dirty = a at e ⊢
  generalize m'.startWrite.ss.engine = b at e ⊢
  rw [e]
  rfl

/-! ### Packets (R175, R180) -/

/-- A row whose packet waits takes it. -/
theorem State.Hands.taken {c : Instr} {s : State} {kind : Byte} {body : List Byte} {f : List Byte → State → State}
    (h : s.Hands kind body) (he : exec c s = .next (s.takePacket kind f)) :
    exec c s = .next (f body s.packetGone) := by
  rw [he, State.takePacket_of h]

theorem State.Dirties.endPasses {m m' : State} (d : m.Dirties m') : m.endPasses.Dirties m'.endPasses := by
  have e := d.rest
  generalize m'.ss.dirty = l at e
  subst e
  exact ⟨rfl⟩

theorem State.Dirties.setPass {m m' : State} (d : m.Dirties m') (o : OutputId) (p : Option Pass) :
    (m.setPass o p).Dirties (m'.setPass o p) := by
  have e := d.rest
  generalize m'.ss.dirty = l at e
  subst e
  exact ⟨rfl⟩

end Sys2Proof.Machine

/-! PROOF. The settings of the tuner pool, the feed and the PIN that a request or packet changes: O38, O54, O57 and
O60. -/

namespace Sys2Proof.Machine

/-! ### TUNER SETUP (O38) -/

theorem readOne_u24 {v : Nat} (h : v < 16777216) : readOne 3 (u24 v) = some v := by
  have hread := readOne_eq (u24 v)
  rw [beNat_u24 h] at hread
  exact hread

/-- Settles O38: the setting is replaced and TUNER SETUP marked, or nothing changes. -/
theorem tunerSetupSetsTheIf : Obligations.TunerSetupSetsTheIf := by
  intro s r rest v h hk hb hv
  have hread : readOne 3 r.body = some v := hb ▸ readOne_u24 hv
  refine ⟨fun hrange => h.answers rfl hk hread (if_neg (by omega)), fun hlow hhigh =>
    ⟨fun hactive => ?busy, fun hasleep => ⟨fun hsame => ?same, fun hnew => ?new⟩⟩⟩
  case busy =>
    have hawake : (s.unqueued rest).awake = true := (s.unqueued rest).awake_iff.2 hactive
    exact h.answers rfl hk hread (by rw [if_pos ⟨hlow, hhigh⟩, if_pos hawake]; rfl)
  all_goals
    have hawake : (s.unqueued rest).awake = false := State.awake_eq_false hasleep
    have hserve {x : State} (hx : (s.unqueued rest).setIf v = x) :=
      h.served (x := x) (st := .ok) (body := []) (c := .tunerSetup) rfl hk hread
        (by rw [if_pos ⟨hlow, hhigh⟩, if_neg (by simp [hawake]), hx]; rfl)
  case same => exact hserve (if_pos hsame.symm)
  case new =>
    have hset : (s.unqueued rest).setIf v = (({ s.unqueued rest with
        tp := { s.tp with ifKHz := v } } : State).markDirty .tunerSetup).startWrite :=
      if_neg (fun e => hnew e.symm)
    exact ⟨_, hserve hset, (State.awaitsWrite_startWrite (mem_joinDirty.2 (.inl rfl)) (by decide)).pushReply _,
      (State.markDirty_dirties .tunerSetup _).startWrite_pushReply _⟩

/-! ### FEED SETUP and the silence timer (O60) -/

theorem readThree_bytes (a b c : Byte) : readThree 1 1 1 [a, b, c] = some (a.toNat, b.toNat, c.toNat) := by
  simp [readThree, beNat]

theorem PortMode.ofCode_eq_none {n : Nat} (h : 2 < n) : PortMode.ofCode n = none := by
  unfold PortMode.ofCode
  split <;> [omega; omega; omega; rfl]

theorem Polarity.ofCode_eq_none {n : Nat} (h : 1 < n) : Polarity.ofCode n = none := by
  unfold Polarity.ofCode
  split <;> [omega; omega; rfl]

theorem PortMode.ofCode_byte {a : Byte} (h : a.toNat ≤ 2) :
    PortMode.ofCode a.toNat = some (if a = 0 then .strobe else if a = 1 then .leading else .trailing) := by
  obtain h | h | h : a.toNat = 0 ∨ a.toNat = 1 ∨ a.toNat = 2 := by omega
  · rw [show a = 0 from BitVec.eq_of_toNat_eq h]; rfl
  · rw [show a = 1 from BitVec.eq_of_toNat_eq h]; rfl
  · rw [show a = 2 from BitVec.eq_of_toNat_eq h]; rfl

theorem Polarity.ofCode_byte {a : Byte} (h : a.toNat ≤ 1) :
    Polarity.ofCode a.toNat = some (if a = 0 then .activeHigh else .activeLow) := by
  obtain h | h : a.toNat = 0 ∨ a.toNat = 1 := by omega
  · rw [show a = 0 from BitVec.eq_of_toNat_eq h]; rfl
  · rw [show a = 1 from BitVec.eq_of_toNat_eq h]; rfl

theorem edgeWaiting_eq_false {l : List Instr} (h : ∀ fd, l.head? ≠ some (.fstbActiveEdge fd)) :
    edgeWaiting l = false := by
  unfold edgeWaiting
  split
  · exact absurd rfl (h _)
  · rfl

/-- Settles O60: the record of HF that R182 gives, and FEED SETUP marked. -/
theorem feedSetupAndSilenceTakeEffect : Obligations.FeedSetupAndSilenceTakeEffect := by
  intro s
  refine ⟨fun r rest a b c h hk hb => ⟨fun hbad => ?bad, fun ha hb' hc => ?good⟩,
    fun hrun hsil => congrArg Host.Outcome.next (if_pos ⟨hrun, hsil⟩),
    fun hno => congrArg Host.Outcome.next (if_neg fun hyes => ?still)⟩
  case bad =>
    refine h.answers rfl hk (hb ▸ readThree_bytes a b c) ?_
    dsimp only
    split
    · rename_i hm hst hak
      obtain hbad | hbad | hbad := hbad
      · rw [PortMode.ofCode_eq_none hbad] at hm; cases hm
      · rw [Polarity.ofCode_eq_none hbad] at hst; cases hst
      · rw [Polarity.ofCode_eq_none hbad] at hak; cases hak
    · rfl
  case good =>
    have hserve := h.served (c := .feedSetup) rfl hk (hb ▸ readThree_bytes a b c) (by
      simp only [PortMode.ofCode_byte ha, Polarity.ofCode_byte hb', Polarity.ofCode_byte hc]
      rfl)
    exact ⟨_, edgeWaiting s.pending, hserve,
      (State.awaitsWrite_startWrite (mem_joinDirty.2 (.inl rfl)) (by decide)).pushReply _, edgeWaiting_eq_false,
      (State.markDirty_dirties .feedSetup _).startWrite_pushReply _⟩
  case still =>
    obtain hno | hno := hno
    · exact hno hyes.1
    · rw [hno] at hyes; cases hyes.2

/-! ### MASTER, PINRESET and GROUP (O57) -/

theorem readLevel_eq_none {b : Byte} (h : 1 < b.toNat) : readLevel b = none := by
  unfold readLevel
  rw [if_neg (by rintro rfl; simp at h), if_neg (by rintro rfl; simp at h)]

theorem readLevel_byte {b : Byte} (h : b.toNat ≤ 1) : readLevel b = some (if b = 0 then .high else .maximum) := by
  obtain h | h : b.toNat = 0 ∨ b.toNat = 1 := by omega
  · rw [show b = 0 from BitVec.eq_of_toNat_eq h]; rfl
  · rw [show b = 1 from BitVec.eq_of_toNat_eq h]; rfl

theorem cut_eq_take {n : Nat} {l : List Byte} (h : n ≤ l.length) : cut n l = some (l.take n, l.drop n) :=
  if_neg h.not_gt

theorem cut_eq_none {n : Nat} {l : List Byte} (h : l.length < n) : cut n l = none := if_pos h

/-- The digits of a MASTER body are in its form (R140). -/
abbrev MasterForm (level n : Byte) (more : List Byte) : Prop :=
  level.toNat ≤ 1 ∧ n.toNat ≤ more.length ∧ (n.toNat = 0 ∨ 4 ≤ n.toNat) ∧ n.toNat ≤ 8 ∧
    ∀ x ∈ more.take n.toNat, x.toNat ≤ 9

theorem readMaster_of_form {level n : Byte} {more : List Byte} (h : MasterForm level n more) :
    readMaster (level :: n :: more) =
      some ⟨if level = 0 then .high else .maximum, (more.take n.toNat).map BitVec.toNat⟩ := by
  obtain ⟨hlevel, hlen, hlow, hhigh, hdigits⟩ := h
  have hok : ¬((1 ≤ n.toNat ∧ n.toNat ≤ 3) ∨ 8 < n.toNat ∨
      ((more.take n.toNat).any fun x => 9 < x.toNat) = true) := by
    simp only [List.any_eq_true, decide_eq_true_eq, not_or, not_exists, not_and, not_lt]
    exact ⟨by omega, hhigh, hdigits⟩
  simp only [readMaster, readLevel_byte hlevel, cut_eq_take hlen, if_neg hok]

theorem readMaster_eq_none {level n : Byte} {more : List Byte} (h : ¬MasterForm level n more) :
    readMaster (level :: n :: more) = none := by
  by_cases hlevel : level.toNat ≤ 1
  · by_cases hlen : n.toNat ≤ more.length
    · have hbad : (1 ≤ n.toNat ∧ n.toNat ≤ 3) ∨ 8 < n.toNat ∨
          ((more.take n.toNat).any fun x => 9 < x.toNat) = true := by
        by_contra hok
        simp only [List.any_eq_true, decide_eq_true_eq, not_or, not_exists, not_and, not_lt] at hok
        exact h ⟨hlevel, hlen, by omega, hok.2.1, hok.2.2⟩
      simp only [readMaster, readLevel_byte hlevel, cut_eq_take hlen, if_pos hbad]
    · simp only [readMaster, readLevel_byte hlevel, cut_eq_none (not_le.1 hlen)]
  · simp only [readMaster, readLevel_eq_none (not_le.1 hlevel)]

theorem readMaster_short {l : List Byte} (h : l.length < 2) : readMaster l = none := by
  match l, h with
  | [], _ => rfl
  | [_], _ => rfl

theorem beNat_pair (x y : Byte) : beNat [x, y] = (x ++ y).toNat := by
  rw [← ofNat_beNat_pair, BitVec.toNat_ofNat, Nat.mod_eq_of_lt (beNat_pair_lt x y)]

theorem readWord_short {l : List Byte} (h : l.length < 2) : readWord l = none := by
  simp [readWord, readNat, cut, h]

theorem readWord_pair (x y : Byte) (l : List Byte) : readWord (x :: y :: l) = some (x ++ y).toNat := by
  rw [← beNat_pair]
  simp [readWord, readNat, cut]

theorem map_take_eq_nil {n : Byte} {l : List Byte} (h : n.toNat ≤ l.length) :
    (l.take n.toNat).map BitVec.toNat = [] ↔ n = 0 := by
  rw [List.map_eq_nil_iff, ← List.length_eq_zero_iff, List.length_take, min_eq_left h]
  exact ⟨fun e => BitVec.eq_of_toNat_eq e, fun e => by rw [e]; rfl⟩

/-- Settles O57: what each packet makes of the PIN record, or of the feed setup, with its record marked. -/
theorem masterPinresetAndGroupTakeEffect : Obligations.MasterPinresetAndGroupTakeEffect := by
  intro s body
  refine ⟨fun h => ⟨fun hshort => ?short, fun level n more hb => ?master⟩, fun h => ?pinreset,
    fun h => ⟨fun hshort => ?noGroup, fun hi lo more hb => ?group⟩⟩
  case short => rw [h.taken (c := .master) rfl, readMaster_short hshort]
  case master =>
    subst hb
    refine ⟨fun hbad => ?_, fun hform => ?_⟩
    · rw [h.taken (c := .master) rfl, readMaster_eq_none hbad]
    · rw [h.taken (c := .master) rfl, readMaster_of_form hform]
      simp only [map_take_eq_nil hform.2.1]
      exact ⟨_, rfl, State.awaitsWrite_startWrite (mem_joinDirty.2 (.inl rfl)) (by decide),
        (State.markDirty_dirties .pin _).startWrite⟩
  case pinreset =>
    refine ⟨_, h.taken (c := .pinreset) rfl, (State.setPinRecord_dirties _ s.packetGone).endPasses.closes
      (State.report_closes _ _), fun hnew => ⟨?_, ?_⟩⟩
    · exact State.awaitsWrite_report (State.mem_dirty_setPinRecord hnew) (by decide)
    · unfold State.pinReset
      dsimp only
      rw [State.packetGone_pc, if_neg hnew]
      exact State.report_active_roomsDecided (by simp [State.endPasses])
  case noGroup => rw [h.taken (c := .group) rfl, readWord_short hshort]
  case group =>
    rw [h.taken (c := .group) rfl, hb, readWord_pair]
    exact ⟨_, rfl, State.awaitsWrite_startWrite (mem_joinDirty.2 (.inl rfl)) (by decide),
      (State.markDirty_dirties .feedSetup _).startWrite⟩

/-! ### The judgement of a PIN (R125) -/

theorem PinRecord.admitsMaster_iff (r : PinRecord) (forClear : Bool) (d : List Nat) :
    r.admitsMaster forClear d = true ↔ r.master = some d ∧ (r.level = .high ∨ forClear = true) := by
  simp [PinRecord.admitsMaster]

theorem PinRecord.judge_eq_wrong_iff (r : PinRecord) (forClear : Bool) (d : List Nat) :
    r.judge forClear d = .wrong ↔ ¬r.Accepts forClear d := by
  unfold PinRecord.judge PinRecord.Accepts
  rw [← r.admitsMaster_iff]
  split_ifs <;> simp [*]

theorem PinRecord.judge_eq_asMaster_iff (r : PinRecord) (forClear : Bool) (d : List Nat) :
    r.judge forClear d = .asMaster ↔ d ≠ [] ∧ r.master = some d ∧ (r.level = .high ∨ forClear = true) := by
  unfold PinRecord.judge
  rw [← r.admitsMaster_iff]
  split_ifs <;> simp [*]

/-! ### PIN SET, PIN CLEAR and FREEZE (O54) -/

theorem newPin_bytes {d : List Nat} (hlen : d.length = 4) (hd : ∀ x ∈ d, x ≤ 9) : PinBytes d :=
  ⟨by omega, fun x hx => by have := hd x hx; omega⟩

theorem State.clearPin_dirties (m : State) :
    ({ m with pc := { m.pc with record := { m.pc.record with pin := none, attempts := 0 },
                                passes := Vector.replicate 4 none } } : State).Dirties m.clearPin := ⟨rfl⟩

theorem State.masterClear_dirties (m : State) :
    ({ m with pc := { m.pc with record := { m.pc.record with pin := none, attempts := 0 },
                                passes := Vector.replicate 4 none, profiles := Vector.replicate 4 .initial,
                                bindings := initialBindings } } : State).Dirties m.masterClear := by
  unfold State.masterClear
  exact Dirties.trans ⟨rfl⟩ (foldl_related Dirties.refl Dirties.trans (fun s r => s.markDirty_dirties r) _ _)

theorem State.mem_dirty_clearPin (m : State) : .pin ∈ m.clearPin.ss.dirty := mem_joinDirty.2 (.inl rfl)

theorem State.mem_dirty_masterClear (m : State) :
    .pin ∈ m.masterClear.ss.dirty ∧ (∀ p, .profile p ∈ m.masterClear.ss.dirty) ∧
      .bindings ∈ m.masterClear.ss.dirty := by
  have hdirty : m.masterClear.ss.dirty = joinDirty .bindings (joinDirty (.profile 3) (joinDirty (.profile 2)
      (joinDirty (.profile 1) (joinDirty (.profile 0) m.clearPin.ss.dirty)))) := rfl
  rw [hdirty]
  simp only [mem_joinDirty]
  refine ⟨by simp [m.mem_dirty_clearPin], fun p => ?_, by simp⟩
  fin_cases p <;> simp

theorem State.setPin_of_authorises {s : State} {f : PinSetFields} (h : s.Authorises f.current) :
    s.setPin f = answer .ok ((s.setPinRecord { s.pc.record with pin := some f.new, attempts := 0 }).report
      (if s.pinState = .unset then s.activeOutputs else [])) := by
  unfold State.setPin
  obtain hunset | ⟨harmed, haccepts⟩ := h
  · simp only [hunset, if_true]
  · cases hjudge : s.pc.record.judge false f.current
    · exact absurd haccepts ((s.pc.record.judge_eq_wrong_iff _ _).1 hjudge)
    · simp [harmed]
    · simp [harmed]

/-- A PIN CLEAR past its checks: the larger clear for the master PIN at MAXIMUM (R130, R131). -/
theorem State.pinClear_of_accepts {s : State} {d : List Nat} (harmed : s.pinState = .armed)
    (h : s.pc.record.Accepts true d) :
    s.pinClear d = answer .ok
      ((if s.pc.record.master = some d ∧ s.pc.record.level = .maximum then s.masterClear else s.clearPin).report
        s.activeOutputs) := by
  have hmaster := s.pc.record.judge_eq_asMaster_iff true d
  unfold State.pinClear
  simp only [harmed]
  cases hjudge : s.pc.record.judge true d
  · exact absurd h ((s.pc.record.judge_eq_wrong_iff _ _).1 hjudge)
  · have hno : ¬(s.pc.record.master = some d ∧ s.pc.record.level = .maximum) := by
      rintro ⟨hm, -⟩
      rw [hmaster.2 ⟨h.1, hm, .inr rfl⟩] at hjudge
      cases hjudge
    rw [if_neg hno]
  · obtain ⟨-, hm, -⟩ := hmaster.1 hjudge
    cases hlevel : s.pc.record.level <;> simp [hm]

/-- Settles O54: past its checks each request leaves the PIN record that its rule gives, with PIN marked. -/
theorem pinRequestsTakeEffect : Obligations.PinRequestsTakeEffect := by
  intro s r rest h
  refine ⟨fun hk new cur hb hnew hcur hbad => ?badSet, fun hk d hb hd hbad => ?badClear,
    fun hk new cur hb hlen hdig hcur hthawed hauth => ?set,
    fun hk d hb hd hthawed => ⟨fun hunset => ?noPin, fun harmed haccepts => ?clear⟩, fun hk hb => ?freeze⟩
  case badSet =>
    refine h.answers rfl hk (hb ▸ readPinSet_pinField hnew hcur) ?_
    have hform : ¬((newPinOk new && pinFormOk cur) = true) := by
      rw [Bool.and_eq_true, newPinOk_iff, pinFormOk_iff, and_assoc]
      exact hbad
    rw [if_neg hform]
    rfl
  case badClear =>
    refine h.answers rfl hk (hb ▸ readPinClear_pinField hd) ?_
    rw [if_neg (by rw [pinFormOk_iff]; exact hbad)]
    rfl
  case set =>
    have hform : (newPinOk new && pinFormOk cur) = true := by
      rw [Bool.and_eq_true, newPinOk_iff, pinFormOk_iff]
      exact ⟨⟨hlen, hdig⟩, hcur⟩
    have hfrozen : ¬((s.unqueued rest).pc.frozen = true) := by
      change ¬(s.pc.frozen = true); rw [hthawed]; decide
    have hread : readPinSet r.body = some ⟨new, cur⟩ :=
      hb ▸ readPinSet_pinField (newPin_bytes hlen hdig) hcur.bytes
    have hserve := h.served (c := .pinSet) rfl hk hread (by
      rw [if_pos hform, if_neg hfrozen, State.setPin_of_authorises hauth])
    refine ⟨_, hserve, ((State.setPinRecord_dirties _ _).closes (State.report_closes _ _)).pushReply _,
      fun hunset => ?_, fun hne =>
      (State.awaitsWrite_report (State.mem_dirty_setPinRecord (m := s.unqueued rest) hne) (by decide)).pushReply _⟩
    rw [if_pos (show (s.unqueued rest).pinState = .unset from hunset)]
    exact State.RoomsDecided.pushReply _ (State.report_active_roomsDecided (by simp))
  case noPin =>
    have hpin : (s.unqueued rest).pinState = .unset := hunset
    refine h.answers rfl hk (hb ▸ readPinClear_pinField hd.bytes) ?_
    rw [if_pos (pinFormOk_iff.2 hd), if_neg (by simpa using hthawed), State.pinClear, hpin]
    rfl
  case clear =>
    have harmed' : (s.unqueued rest).pinState = .armed := harmed
    have hclear := State.pinClear_of_accepts harmed' haccepts
    have hfrozen : ¬((s.unqueued rest).pc.frozen = true) := by simpa using hthawed
    by_cases hwhole : (s.unqueued rest).pc.record.master = some d ∧ (s.unqueued rest).pc.record.level = .maximum
    · have hserve := h.served (c := .pinClear) rfl hk (hb ▸ readPinClear_pinField hd.bytes) (by
        rw [if_pos (pinFormOk_iff.2 hd), if_neg hfrozen, hclear, if_pos hwhole])
      obtain ⟨hpin, hprofiles, hbindings⟩ := (s.unqueued rest).mem_dirty_masterClear
      have hmark := (s.unqueued rest).masterClear_dirties
      exact ⟨_, hserve, (State.report_active_roomsDecided hmark.ou).pushReply _,
        (State.awaitsWrite_report hpin (by decide)).pushReply _, fun hpart => absurd hwhole hpart,
        fun _ => ⟨(hmark.closes (State.report_closes _ _)).pushReply _,
          fun p => (State.awaitsWrite_report (hprofiles p) (by simp)).pushReply _,
          (State.awaitsWrite_report hbindings (by decide)).pushReply _⟩⟩
    · have hserve := h.served (c := .pinClear) rfl hk (hb ▸ readPinClear_pinField hd.bytes) (by
        rw [if_pos (pinFormOk_iff.2 hd), if_neg hfrozen, hclear, if_neg hwhole])
      have hmark := (s.unqueued rest).clearPin_dirties
      exact ⟨_, hserve, (State.report_active_roomsDecided hmark.ou).pushReply _,
        (State.awaitsWrite_report (s.unqueued rest).mem_dirty_clearPin (by decide)).pushReply _,
        fun _ => (hmark.closes (State.report_closes _ _)).pushReply _, fun hyes => absurd hyes hwhole⟩
  case freeze => exact (h.served rfl hk (hb ▸ readNone_nil) rfl).trans rfl

end Sys2Proof.Machine

/-! PROOF. Requests that carry a PIN: how their bodies read back, what their checks come to, and from these O55 and
O56. -/

namespace Sys2Proof.Machine

/-! ### PROFILE SET's body (R132) -/

theorem beNat_u16_mod (n : Nat) : beNat (u16 n) = n % 65536 := by
  simp only [u16, toByte, beNat, List.foldl_cons, List.foldl_nil, BitVec.toNat_ofNat]
  omega

theorem readMany_words {ns : List Nat} (h : ∀ n ∈ ns, n < 65536) (r : List Byte) :
    readMany (readNat 2) ns.length ((ns.map u16).flatten ++ r) = some (ns, r) := by
  induction ns with
  | nil => rfl
  | cons n ns ih =>
    obtain ⟨hn, hns⟩ := List.forall_mem_cons.1 h
    have hfirst : readNat 2 (u16 n ++ ((ns.map u16).flatten ++ r)) = some (n, (ns.map u16).flatten ++ r) := by
      have hcut : cut 2 (u16 n ++ ((ns.map u16).flatten ++ r)) = some (u16 n, (ns.map u16).flatten ++ r) :=
        cut_eq_some.2 ⟨rfl, rfl⟩
      simp only [readNat, hcut, Option.map_some, beNat_u16 hn]
    simp only [List.length_cons, List.map_cons, List.flatten_cons, List.append_assoc, readMany, hfirst, ih hns,
      Option.map_some]

/-- PROFILE SET's body is read back as it was written; from and to are words. -/
theorem readProfileSet_bytes {p c u f b w : Byte} {opens closes : Nat} {channels d : List Nat}
    (hlen : channels.length < 256) (hch : ∀ n ∈ channels, n < 65536) (hd : PinBytes d) :
    readProfileSet (profileSetBytes p c u f b w opens closes channels d) =
      some ⟨p.toNat, c.toNat, u.toNat, f.toNat, b.toNat, w.toNat, opens % 65536, closes % 65536, channels, d⟩ := by
  have hpin := readPin_pinField hd []
  rw [List.append_nil] at hpin
  have hmany := readMany_words hch (pinField d)
  have hopens := beNat_u16_mod opens
  have hcloses := beNat_u16_mod closes
  unfold u16 at hopens hcloses
  simp only [profileSetBytes, u16, List.cons_append, List.nil_append, readProfileSet,
    toNat_ofNat_byte hlen]
  rw [hmany]
  simp only [hpin, hopens, hcloses]

theorem toNat_flag (b : Bool) : (if b then (1 : Byte) else 0).toNat = if b then 1 else 0 := by
  cases b <;> rfl

/-- The fields that the body of a lawful profile carries are in their form (R132). -/
theorem formOk_of_form {p : Nat} {v : Profile} {channels d : List Nat} {u b w opens closes : Nat}
    (h : ProfileForm v channels) (hu : u ≤ 1) (hb : b ≤ 1) (hw : w = if v.window.isSome then 1 else 0)
    (hopens : ∀ x ∈ v.window, opens = x.opens) (hcloses : ∀ x ∈ v.window, closes = x.closes) :
    (ProfileSetFields.mk p v.ceiling u v.blocked.toNat b w opens closes channels d).formOk = true := by
  obtain ⟨hceil, hwindow, hlen, hch⟩ := h
  have hblocked := v.blocked.isLt
  have hlocked : (channels.all fun c => decide (1 ≤ c) && decide (c ≤ 999)) = true := by simpa using hch
  subst hw
  cases hv : v.window with
  | none =>
    simp [ProfileSetFields.formOk, hceil, hu, hb, hlen, hlocked, hblocked]
  | some x =>
    obtain ⟨ho, hc, hne⟩ := hwindow x (by rw [hv]; rfl)
    have ho' := hopens x (by rw [hv]; rfl)
    have hc' := hcloses x (by rw [hv]; rfl)
    simp [ProfileSetFields.formOk, hceil, hu, hb, hlen, hlocked, hblocked, ho', hc', ho, hc, hne]

/-- The body of a lawful profile is read back as that profile, its locked list sorted and merged (R132). -/
theorem readProfileSet_body {p : ProfileId} {v : Profile} {idle : Window} {channels d : List Nat}
    (h : ProfileForm v channels) (hd : PinBytes d) :
    ∃ f, readProfileSet (profileSetBody p v idle channels d) = some f ∧ f.profile = p.val ∧ f.formOk = true ∧
      f.toProfile = { v with locked := lockedList channels } ∧ f.pin = d := by
  obtain ⟨hceil, hwindow, hlen, hch⟩ := h
  have hblocked := v.blocked.isLt
  have hwindow' : (if v.window.isSome then (1 : Byte) else 0).toNat = if v.window.isSome then 1 else 0 :=
    toNat_flag _
  have hword {n : Nat} (hn : n ≤ 1439) : n % 65536 = n := Nat.mod_eq_of_lt (by omega)
  refine ⟨_, readProfileSet_bytes (by omega) (fun n hn => by have := hch n hn; omega) hd,
    toNat_ofNat_fin p, ?form, ?profile, rfl⟩
  case form =>
    rw [toNat_ofNat_byte (show v.ceiling < 256 by omega), toNat_ofNat_byte (show v.blocked.toNat < 256 by omega)]
    refine formOk_of_form ⟨hceil, hwindow, hlen, hch⟩ ?_ ?_ hwindow' ?_ ?_
    · rw [toNat_flag]; split_ifs <;> omega
    · rw [toNat_flag]; split_ifs <;> omega
    all_goals
      intro x hx
      obtain ⟨ho, hc, -⟩ := hwindow x hx
      rw [Option.mem_def] at hx
      rw [hx]
    · exact hword ho
    · exact hword hc
  case profile =>
    rw [toNat_ofNat_byte (show v.ceiling < 256 by omega), toNat_ofNat_byte (show v.blocked.toNat < 256 by omega)]
    simp only [ProfileSetFields.toProfile, toNat_flag]
    obtain ⟨ceiling, unrated, blocked, purchase, window, locked⟩ := v
    have hflag (b : Bool) : ((if b then 1 else 0 : Nat) == 1) = b := by cases b <;> rfl
    have hset : BitVec.ofNat 4 blocked.toNat = blocked := BitVec.ofNat_toNat _ _
    rw [hflag, hflag, hset]
    cases window with
    | none => rfl
    | some w =>
      obtain ⟨ho, hc, -⟩ := hwindow w rfl
      simp only [Option.isSome_some, if_true, Option.getD_some, hword ho, hword hc]

/-! ### The locked list (R132) -/

theorem mem_joinLocked {n m : Nat} {l : List Nat} : m ∈ joinLocked n l ↔ m = n ∨ m ∈ l := by
  induction l with
  | nil => simp [joinLocked]
  | cons x xs ih =>
    unfold joinLocked
    split_ifs with hlt heq
    · rw [List.mem_cons]
    · subst heq; simp
    · rw [List.mem_cons, ih, List.mem_cons, or_left_comm]

theorem joinLocked_pairwise {n : Nat} {l : List Nat} (h : l.Pairwise (· < ·)) :
    (joinLocked n l).Pairwise (· < ·) := by
  induction l with
  | nil => simp [joinLocked]
  | cons x xs ih =>
    obtain ⟨hx, hxs⟩ := List.pairwise_cons.1 h
    unfold joinLocked
    split_ifs with hlt heq
    · exact List.pairwise_cons.2 ⟨List.forall_mem_cons.2 ⟨hlt, fun y hy => hlt.trans (hx y hy)⟩, h⟩
    · exact h
    · refine List.pairwise_cons.2 ⟨fun y hy => ?_, ih hxs⟩
      obtain rfl | hy := mem_joinLocked.1 hy
      · omega
      · exact hx y hy

theorem foldl_joinLocked (l acc : List Nat) (h : acc.Pairwise (· < ·)) :
    (l.foldl (fun acc n => joinLocked n acc) acc).Pairwise (· < ·) ∧
      ∀ m, m ∈ l.foldl (fun acc n => joinLocked n acc) acc ↔ m ∈ l ∨ m ∈ acc := by
  induction l generalizing acc with
  | nil => simpa using h
  | cons n l ih =>
    obtain ⟨hsorted, hmem⟩ := ih (joinLocked n acc) (joinLocked_pairwise h)
    refine ⟨hsorted, fun m => ?_⟩
    rw [List.foldl_cons, hmem, mem_joinLocked, List.mem_cons, or_assoc, or_left_comm]

theorem lockedList_pairwise (l : List Nat) : (lockedList l).Pairwise (· < ·) := (foldl_joinLocked l [] .nil).1

theorem mem_lockedList {l : List Nat} {m : Nat} : m ∈ lockedList l ↔ m ∈ l := by
  simpa [lockedList] using (foldl_joinLocked l [] .nil).2 m

/-! ### The PIN check (R125, R126) -/

/-- What a wrong PIN leaves, short of a lockout (R126). -/
theorem State.countWrong_few {m : State} (h : m.pc.record.attempts + 1 < 5) :
    ({ m with pc := { m.pc with record := { m.pc.record with attempts := m.pc.record.attempts + 1 } } } :
      State).Closes m.countWrong ∧ m.countWrong.awaitsWrite .pin := by
  have hcount : m.countWrong =
      (m.setPinRecord { m.pc.record with attempts := m.pc.record.attempts + 1 }).report [] :=
    if_neg h.not_ge
  have hne : { m.pc.record with attempts := m.pc.record.attempts + 1 } ≠ m.pc.record := fun e => by
    have := congrArg PinRecord.attempts e
    simp at this
  rw [hcount]
  exact ⟨(State.setPinRecord_dirties _ m).closes (State.report_closes _ _),
    State.awaitsWrite_report (State.mem_dirty_setPinRecord hne) (by decide)⟩

/-- What the fifth wrong PIN leaves: a lockout of 15 minutes (R126). -/
theorem State.countWrong_fifth {m : State} (h : 5 ≤ m.pc.record.attempts + 1) :
    (({ m with pc := { m.pc with record := { m.pc.record with
      attempts := m.pc.record.attempts + 1, lockout := 15 } } } : State).latch .pinLockout).Closes m.countWrong ∧
    m.countWrong.awaitsWrite .pin ∧ m.countWrong.RoomsDecided := by
  have hcount : m.countWrong = ((m.setPinRecord { m.pc.record with
      attempts := m.pc.record.attempts + 1, lockout := 15 }).latch .pinLockout).report m.activeOutputs :=
    if_pos h
  have hne : { m.pc.record with attempts := m.pc.record.attempts + 1, lockout := 15 } ≠ m.pc.record := fun e => by
    have := congrArg PinRecord.attempts e
    simp at this
  rw [hcount]
  refine ⟨((State.setPinRecord_dirties _ m).latch _).closes (State.report_closes _ _),
    State.awaitsWrite_report ?_ (by decide), State.report_active_roomsDecided (by simp)⟩
  rw [State.latch_ss]
  exact State.mem_dirty_setPinRecord hne

/-- The record that an accepted PIN, or UNSET, leaves (R125, R126). -/
theorem State.accepted_of_armed {s : State} (h : s.pinState = .armed) :
    s.pc.record.accepted = { s.pc.record with attempts := 0 } := by
  unfold State.pinState PinRecord.state at h
  unfold PinRecord.accepted
  split_ifs at h with hlock
  have hpin : s.pc.record.pin ≠ none := fun hpin => by rw [hpin] at h; cases h
  rw [if_neg (by simp [hlock, hpin])]

theorem State.accepted_of_unset {s : State} (h : s.pinState = .unset) : s.pc.record.accepted = s.pc.record := by
  unfold State.pinState PinRecord.state at h
  unfold PinRecord.accepted
  split_ifs at h with hlock
  cases hpin : s.pc.record.pin with
  | none => rw [if_pos (.inr rfl)]
  | some d => rw [hpin] at h; cases h

theorem State.setPinRecord_self (s : State) : s.setPinRecord s.pc.record = s := if_pos rfl

/-- A PIN check that is passed leaves the accepted record, marked where it changed (R126, R128). -/
theorem State.pinCheck_of_authorises {s : State} {d : List Nat} (h : s.Authorises d) :
    s.pinCheck d = .ok (s.setPinRecord s.pc.record.accepted) := by
  unfold State.pinCheck
  obtain hunset | ⟨harmed, haccepts⟩ := h
  · simp only [hunset, State.accepted_of_unset hunset, State.setPinRecord_self]
  · rw [State.accepted_of_armed harmed]
    cases hjudge : s.pc.record.judge false d
    · exact absurd haccepts ((s.pc.record.judge_eq_wrong_iff _ _).1 hjudge)
    · simp only [harmed]; rfl
    · simp only [harmed]; rfl

theorem State.pinCheck_lockedOut {s : State} {d : List Nat} (h : s.pinState = .lockedOut) :
    s.pinCheck d = .error (answer .lockedOut s) := by
  simp only [State.pinCheck, h]

theorem State.pinCheck_wrong {s : State} {d : List Nat} (h : s.pinState = .armed)
    (hd : ¬s.pc.record.Accepts false d) : s.pinCheck d = .error (answer .wrongPin s.countWrong) := by
  simp only [State.pinCheck, h, (s.pc.record.judge_eq_wrong_iff _ _).2 hd]

/-! ### Requests at their PIN check (O56) -/

theorem scopeOfCode_le {n : Nat} (h : n ≤ 1) : ∃ sc, Scope.ofCode n = some sc := by
  interval_cases n <;> simp [Scope.ofCode]

/-- The pass that a scope gives where the output has a channel (R136). -/
theorem State.passFor_channel {s : State} {o : OutputId} {ch : Nat} (h : s.ou[o].channel = some ch) :
    s.passFor o .channel = some (.channel ch 240) := by
  simp only [State.passFor, h, Config.passMinutes]

theorem State.passFor_event {s : State} {o : OutputId} {ch : Nat} (h : s.ou[o].channel = some ch) :
    s.passFor o .event = (s.current ch).map fun e => .event ch e.eventId := by
  simp only [State.passFor, h]

theorem Decision.isParental_iff {d : Decision} : d.isParental = true ↔ ∃ why, d = .blockedParental why := by
  cases d <;> simp [Decision.isParental]

/-- What follows a PIN check, or its refusal (R128). -/
def State.pinChecked (d : List Nat) (k : State → Served) (s : State) : Served :=
  match s.pinCheck d with
  | .error r => r
  | .ok x => k x

section
variable {s : State} {r : Request} {rest : List Request} {d : List Nat} {y : Served}

theorem State.Serves.pinSet {new : List Nat} (h : s.Serves r rest) (hk : r.kind = 0x40)
    (hb : r.body = pinField new ++ pinField d) (hlen : new.length = 4) (hnew : ∀ x ∈ new, x ≤ 9) (hd : PinForm d)
    (hy : (if s.pc.frozen then answer .frozen (s.unqueued rest) else (s.unqueued rest).setPin ⟨new, d⟩) = y) :
    exec .pinSet s = .next (y.state.pushReply ⟨r.kind ||| 0x80, r.tag, y.status, y.body⟩) := by
  refine h.served rfl hk (hb ▸ readPinSet_pinField (newPin_bytes hlen hnew) hd.bytes) ?_
  have hform : (newPinOk new && pinFormOk d) = true := by
    rw [Bool.and_eq_true, newPinOk_iff, pinFormOk_iff]
    exact ⟨⟨hlen, hnew⟩, hd⟩
  rw [if_pos hform]
  exact hy

theorem State.Serves.pinClear (h : s.Serves r rest) (hk : r.kind = 0x41) (hb : r.body = pinField d)
    (hd : PinForm d)
    (hy : (if s.pc.frozen then answer .frozen (s.unqueued rest) else (s.unqueued rest).pinClear d) = y) :
    exec .pinClear s = .next (y.state.pushReply ⟨r.kind ||| 0x80, r.tag, y.status, y.body⟩) := by
  refine h.served rfl hk (hb ▸ readPinClear_pinField hd.bytes) ?_
  rw [if_pos (pinFormOk_iff.2 hd)]
  exact hy

theorem State.Serves.profileSet {p : ProfileId} {v : Profile} {idle : Window} {channels : List Nat}
    (h : s.Serves r rest) (hk : r.kind = 0x44) (hb : r.body = profileSetBody p v idle channels d)
    (hform : ProfileForm v channels) (hd : PinForm d)
    (hy : (if s.pc.frozen then answer .frozen (s.unqueued rest) else (s.unqueued rest).pinChecked d fun x =>
      answer .ok (x.setProfile p { v with locked := lockedList channels })) = y) :
    exec .profileSet s = .next (y.state.pushReply ⟨r.kind ||| 0x80, r.tag, y.status, y.body⟩) := by
  obtain ⟨f, hread, hp, hfields, hv, hpin⟩ := readProfileSet_body (p := p) (idle := idle) hform hd.bytes
  refine h.served rfl hk (hb ▸ hread) ?_
  have hlt : f.profile < 4 := hp ▸ p.isLt
  have hfin : (⟨f.profile, hlt⟩ : ProfileId) = p := Fin.ext hp
  have hok : (f.formOk && pinFormOk f.pin) = true := by
    rw [hfields, hpin, pinFormOk_iff.2 hd]
    rfl
  rw [dif_pos hlt, if_pos hok, hfin, hv, hpin]
  exact hy

theorem State.Serves.bind {o : OutputId} {p : ProfileId} (h : s.Serves r rest) (hk : r.kind = 0x46)
    (hb : r.body = [BitVec.ofNat 8 o.val, BitVec.ofNat 8 p.val] ++ pinField d) (hd : PinForm d)
    (hy : (if s.pc.frozen then answer .frozen (s.unqueued rest) else (s.unqueued rest).pinChecked d fun x =>
      answer .ok (x.bindOutput o p)) = y) :
    exec .bind s = .next (y.state.pushReply ⟨r.kind ||| 0x80, r.tag, y.status, y.body⟩) := by
  have hread := readTwoAndPin_pinField hd.bytes (BitVec.ofNat 8 o.val) (BitVec.ofNat 8 p.val)
  rw [toNat_ofNat_fin o, toNat_ofNat_fin p] at hread
  refine h.served rfl hk (hb ▸ hread) ?_
  rw [dif_pos ⟨o.isLt, p.isLt⟩, if_pos (pinFormOk_iff.2 hd)]
  exact hy

theorem State.Serves.pinEnter {o : OutputId} {scope : Byte} {sc : Scope} (h : s.Serves r rest) (hk : r.kind = 0x42)
    (hb : r.body = [BitVec.ofNat 8 o.val, scope] ++ pinField d) (hsc : Scope.ofCode scope.toNat = some sc)
    (hd : PinForm d) (hy : (s.unqueued rest).pinEnter o sc d = y) :
    exec .pinEnter s = .next (y.state.pushReply ⟨r.kind ||| 0x80, r.tag, y.status, y.body⟩) := by
  have hread := readTwoAndPin_pinField hd.bytes (BitVec.ofNat 8 o.val) scope
  rw [toNat_ofNat_fin o] at hread
  refine h.served rfl hk (hb ▸ hread) ?_
  simp only [dif_pos o.isLt, hsc, if_pos (pinFormOk_iff.2 hd)]
  exact hy

/-- PIN ENTER past its first three checks, on a room that is blocked (R136). -/
theorem State.pinEnter_blocked {o : OutputId} {sc : Scope} {p : Pass} (hactive : s.awake = true)
    (hblocked : s.ae[o].decision.isParental = true) (hpass : s.passFor o sc = some p) :
    (s.pinState = .lockedOut → s.pinEnter o sc d = answer .lockedOut s) ∧
      (s.pinState = .armed → ¬s.pc.record.Accepts false d → s.pinEnter o sc d = answer .wrongPin s.countWrong) ∧
      (s.pinState = .armed → s.pc.record.Accepts false d →
        s.pinEnter o sc d = answer .ok ((s.acceptPin.setPass o (some p)).report [o])) := by
  refine ⟨fun hlock => ?_, fun harmed hno => ?_, fun harmed hyes => ?_⟩
  · simp only [State.pinEnter, hactive, hblocked, hpass, hlock, Bool.not_true, Bool.false_eq_true, if_false]
  · have hjudge := (s.pc.record.judge_eq_wrong_iff false d).2 hno
    simp only [State.pinEnter, hactive, hblocked, hpass, harmed, hjudge, Bool.not_true, Bool.false_eq_true,
      if_false]
  · have hjudge := (s.pc.record.judge_eq_wrong_iff false d).not.2 (not_not.2 hyes)
    cases hj : s.pc.record.judge false d
    · exact absurd hj hjudge
    all_goals
      simp only [State.pinEnter, hactive, hblocked, hpass, harmed, hj, Bool.not_true, Bool.false_eq_true, if_false]

end

/-- A request that reaches its PIN check: LOCKED_OUT, or a wrong PIN counted (R125, R126, R128). -/
theorem State.PinBearing.refused {s : State} {r : Request} {rest : List Request} {c : Instr} {d : List Nat}
    (h : s.Serves r rest) (hb : s.PinBearing c r d) :
    (s.pinState = .lockedOut → exec c s = .next (s.answered r rest .lockedOut [])) ∧
      (s.pinState = .armed → ¬s.pc.record.Accepts (decide (c = .pinClear)) d →
        exec c s = .next ((s.unqueued rest).countWrong.pushReply ⟨r.kind ||| 0x80, r.tag, .wrongPin, []⟩)) := by
  have hlocked {k : State → Served} (hlock : s.pinState = .lockedOut) :
      (s.unqueued rest).pinChecked d k = answer .lockedOut (s.unqueued rest) := by
    rw [State.pinChecked, State.pinCheck_lockedOut (s := s.unqueued rest) hlock]
  have hwrong {k : State → Served} (harmed : s.pinState = .armed) (hno : ¬s.pc.record.Accepts false d) :
      (s.unqueued rest).pinChecked d k = answer .wrongPin (s.unqueued rest).countWrong := by
    rw [State.pinChecked, State.pinCheck_wrong (s := s.unqueued rest) harmed hno]
  obtain ⟨hd, ⟨rfl, hk, hthawed, new, hlen, hnew, hbody⟩ | ⟨rfl, hk, hthawed, hbody⟩ |
    ⟨rfl, hk, hthawed, p, v, idle, channels, hform, hbody⟩ | ⟨rfl, hk, hthawed, o, p, hbody⟩ |
    ⟨rfl, hk, hactive, o, hblocked, hch, hscope⟩⟩ := hb
  · refine ⟨fun hlock => (h.pinSet hk hbody hlen hnew hd (y := answer .lockedOut (s.unqueued rest)) ?_).trans rfl,
      fun harmed hno => h.pinSet hk hbody hlen hnew hd (y := answer .wrongPin (s.unqueued rest).countWrong) ?_⟩
    · simp [hthawed, State.setPin, hlock]
    · simp [hthawed, State.setPin, harmed, (s.pc.record.judge_eq_wrong_iff false d).2 hno]
  · refine ⟨fun hlock => (h.pinClear hk hbody hd (y := answer .lockedOut (s.unqueued rest)) ?_).trans rfl,
      fun harmed hno => h.pinClear hk hbody hd (y := answer .wrongPin (s.unqueued rest).countWrong) ?_⟩
    · simp [hthawed, State.pinClear, hlock]
    · simp [hthawed, State.pinClear, harmed, (s.pc.record.judge_eq_wrong_iff true d).2 hno]
  · refine ⟨fun hlock => (h.profileSet hk hbody hform hd (y := answer .lockedOut (s.unqueued rest)) ?_).trans rfl,
      fun harmed hno => h.profileSet hk hbody hform hd (y := answer .wrongPin (s.unqueued rest).countWrong) ?_⟩
    · rw [if_neg (by simp [hthawed]), hlocked hlock]
    · rw [if_neg (by simp [hthawed]), hwrong harmed hno]
  · refine ⟨fun hlock => (h.bind hk hbody hd (y := answer .lockedOut (s.unqueued rest)) ?_).trans rfl,
      fun harmed hno => h.bind hk hbody hd (y := answer .wrongPin (s.unqueued rest).countWrong) ?_⟩
    · rw [if_neg (by simp [hthawed]), hlocked hlock]
    · rw [if_neg (by simp [hthawed]), hwrong harmed hno]
  · obtain ⟨ch, hch⟩ := Option.isSome_iff_exists.1 hch
    obtain ⟨scope, sc, p, hbody, hsc, hpass⟩ : ∃ (scope : Byte) (sc : Scope) (p : Pass),
        r.body = [BitVec.ofNat 8 o.val, scope] ++ pinField d ∧ Scope.ofCode scope.toNat = some sc ∧
          s.passFor o sc = some p := by
      obtain ⟨hbody, hcur⟩ | hbody := hscope
      · obtain ⟨e, he⟩ := Option.isSome_iff_exists.1 hcur
        simp only [State.currentOf, hch] at he
        exact ⟨0, .event, .event ch e.eventId, hbody, rfl, by rw [State.passFor_event hch, he]; rfl⟩
      · exact ⟨1, .channel, .channel ch 240, hbody, rfl, State.passFor_channel hch⟩
    obtain ⟨hlock, hno, -⟩ := State.pinEnter_blocked (s := s.unqueued rest) (d := d)
      ((s.unqueued rest).awake_iff.2 hactive) (Decision.isParental_iff.2 hblocked) hpass
    exact ⟨fun l => (h.pinEnter hk hbody hsc hd (hlock l)).trans rfl,
      fun a n => h.pinEnter hk hbody hsc hd (hno a n)⟩

/-- A request that would reach its PIN check meets the frozen flag first, PIN ENTER apart (R128). -/
theorem State.PinBearing.frozen {s : State} {r : Request} {rest : List Request} {c : Instr} {d : List Nat}
    (h : s.Serves r rest) (hfrozen : s.pc.frozen = true)
    (hb : ({ s with pc := { s.pc with frozen := false } } : State).PinBearing c r d) (hc : c ≠ .pinEnter) :
    exec c s = .next (s.answered r rest .frozen []) := by
  obtain ⟨hd, ⟨rfl, hk, -, new, hlen, hnew, hbody⟩ | ⟨rfl, hk, -, hbody⟩ |
    ⟨rfl, hk, -, p, v, idle, channels, hform, hbody⟩ | ⟨rfl, hk, -, o, p, hbody⟩ | ⟨rfl, -⟩⟩ := hb
  · exact (h.pinSet hk hbody hlen hnew hd (if_pos hfrozen)).trans rfl
  · exact (h.pinClear hk hbody hd (if_pos hfrozen)).trans rfl
  · exact (h.profileSet hk hbody hform hd (if_pos hfrozen)).trans rfl
  · exact (h.bind hk hbody hd (if_pos hfrozen)).trans rfl
  · exact absurd rfl hc

/-- Settles O56: every request that carries a PIN comes to its check, and the check counts what is wrong. -/
theorem wrongPinsAreCountedAndLockOut : Obligations.WrongPinsAreCountedAndLockOut := by
  intro s r rest c d h
  refine ⟨fun hfrozen hb hc => hb.frozen h hfrozen hc, fun hb => ⟨(hb.refused h).1, fun harmed hno => ?_⟩⟩
  have hexec := (hb.refused h).2 harmed hno
  refine ⟨fun hfew => ?few, fun hfifth => ?fifth⟩
  case few =>
    obtain ⟨hcloses, hawaits⟩ := State.countWrong_few (m := s.unqueued rest) hfew
    exact ⟨_, hexec, hawaits.pushReply _, hcloses.pushReply _⟩
  case fifth =>
    obtain ⟨hcloses, hawaits, hrooms⟩ := State.countWrong_fifth (m := s.unqueued rest) hfifth
    exact ⟨_, hexec, hawaits.pushReply _, hrooms.pushReply _, hcloses.pushReply _⟩

/-! ### PROFILE SET, BIND and PIN ENTER (O55) -/

theorem ProfileSetFields.formOk_iff (f : ProfileSetFields) :
    f.formOk = true ↔ f.ceiling ≤ 6 ∧ f.unrated ≤ 1 ∧ f.purchase ≤ 1 ∧ f.windowPresent ≤ 1 ∧ f.content < 16 ∧
      (f.windowPresent = 0 ∨ (f.opens ≤ 1439 ∧ f.closes ≤ 1439 ∧ f.opens ≠ f.closes)) ∧
      f.locked.length ≤ 16 ∧ ∀ c ∈ f.locked, 1 ≤ c ∧ c ≤ 999 := by
  simp [ProfileSetFields.formOk, and_assoc]

theorem scopeOfCode_eq_none {n : Nat} (h : 1 < n) : Scope.ofCode n = none := by
  unfold Scope.ofCode
  split <;> [omega; omega; rfl]

section
variable {s : State} {r : Request} {rest : List Request} {d : List Nat}

/-- PROFILE SET with a field outside its form (R132). -/
theorem State.Serves.profileSet_badField {p c u f b w : Byte} {opens closes : Nat} {channels : List Nat}
    (h : s.Serves r rest) (hk : r.kind = 0x44) (hopens : opens < 65536) (hcloses : closes < 65536)
    (hlen : channels.length < 256) (hch : ∀ n ∈ channels, n < 65536) (hd : PinBytes d)
    (hb : r.body = profileSetBytes p c u f b w opens closes channels d)
    (hbad : 3 < p.toNat ∨ 6 < c.toNat ∨ 1 < u.toNat ∨ 15 < f.toNat ∨ 1 < b.toNat ∨
      1 < w.toNat ∨ (w = 1 ∧ (1439 < opens ∨ 1439 < closes ∨ opens = closes)) ∨
      16 < channels.length ∨ (∃ ch ∈ channels, ch = 0 ∨ 999 < ch) ∨ ¬PinForm d) :
    exec .profileSet s = .next (s.answered r rest .badField []) := by
  refine h.answers rfl hk (hb ▸ readProfileSet_bytes hlen hch hd) ?_
  rw [Nat.mod_eq_of_lt hopens, Nat.mod_eq_of_lt hcloses]
  by_cases hp : p.toNat < 4
  · have hno : ¬((ProfileSetFields.mk p.toNat c.toNat u.toNat f.toNat b.toNat w.toNat opens closes channels
        d).formOk && pinFormOk d) = true := by
      rw [Bool.and_eq_true, ProfileSetFields.formOk_iff, pinFormOk_iff]
      rintro ⟨⟨hceil, hunr, hpur, hwin, hcon, hrange, hcount, hchan⟩, hpin⟩
      simp only at hceil hunr hpur hwin hcon hrange hcount hchan
      obtain hbad | hbad | hbad | hbad | hbad | hbad | ⟨rfl, hbad⟩ | hbad | ⟨ch, hmem, hbad⟩ | hbad := hbad
      case inr.inr.inr.inr.inr.inr.inl =>
        obtain hzero | ⟨ho, hc, hne⟩ := hrange
        · cases hzero
        · omega
      case inr.inr.inr.inr.inr.inr.inr.inr.inl => have := hchan ch hmem; omega
      case inr.inr.inr.inr.inr.inr.inr.inr.inr => exact hbad hpin
      all_goals omega
    rw [dif_pos hp, if_neg hno]
    rfl
  · rw [dif_neg hp]
    rfl

theorem State.Serves.bind_badField {a b : Byte} (h : s.Serves r rest) (hk : r.kind = 0x46) (hd : PinBytes d)
    (hb : r.body = [a, b] ++ pinField d) (hbad : 3 < a.toNat ∨ 3 < b.toNat ∨ ¬PinForm d) :
    exec .bind s = .next (s.answered r rest .badField []) := by
  refine h.answers rfl hk (hb ▸ readTwoAndPin_pinField hd a b) ?_
  by_cases hab : a.toNat < 4 ∧ b.toNat < 4
  · have hpin : ¬PinForm d := by
      obtain hbad | hbad | hbad := hbad
      · omega
      · omega
      · exact hbad
    rw [dif_pos hab, if_neg (by rwa [pinFormOk_iff])]
    rfl
  · rw [dif_neg hab]
    rfl

theorem State.Serves.pinEnter_badField {a scope : Byte} (h : s.Serves r rest) (hk : r.kind = 0x42)
    (hd : PinBytes d) (hb : r.body = [a, scope] ++ pinField d)
    (hbad : 3 < a.toNat ∨ 1 < scope.toNat ∨ ¬PinForm d) :
    exec .pinEnter s = .next (s.answered r rest .badField []) := by
  refine h.answers rfl hk (hb ▸ readTwoAndPin_pinField hd a scope) ?_
  by_cases ha : a.toNat < 4
  · by_cases hscope : scope.toNat ≤ 1
    · have hpin : ¬PinForm d := by
        obtain hbad | hbad | hbad := hbad
        · omega
        · omega
        · exact hbad
      obtain ⟨sc, hsc⟩ := scopeOfCode_le hscope
      simp only [dif_pos ha, hsc, if_neg (pinFormOk_iff.not.2 hpin)]
      rfl
    · simp only [dif_pos ha, scopeOfCode_eq_none (not_le.1 hscope)]
      rfl
  · rw [dif_neg ha]
    rfl

/-- PIN ENTER's checks before the PIN (R136). -/
theorem State.pinEnter_standby {o : OutputId} {sc : Scope} (h : s.awake = false) :
    s.pinEnter o sc d = answer .standby s := by
  simp only [State.pinEnter, h, Bool.not_false, if_true]

theorem State.pinEnter_notBlocked {o : OutputId} {sc : Scope} (h : s.awake = true)
    (hb : s.ae[o].decision.isParental = false) : s.pinEnter o sc d = answer .notBlocked s := by
  simp only [State.pinEnter, h, hb, Bool.not_true, Bool.not_false, Bool.false_eq_true, if_false, if_true]

theorem State.pinEnter_noEvent {o : OutputId} {sc : Scope} (h : s.awake = true)
    (hb : s.ae[o].decision.isParental = true) (hp : s.passFor o sc = none) :
    s.pinEnter o sc d = answer .noEvent s := by
  simp only [State.pinEnter, h, hb, hp, Bool.not_true, Bool.false_eq_true, if_false]

end

theorem State.passFor_eq_none {s : State} {o : OutputId} (h : s.currentOf o = none) : s.passFor o .event = none := by
  unfold State.currentOf at h
  unfold State.passFor
  cases hch : s.ou[o].channel with
  | none => rfl
  | some ch =>
    simp only [hch] at h ⊢
    rw [h]
    rfl

/-- A replaced profile, closed (R132, R142). -/
theorem State.setProfile_closes {x m : State} {p : ProfileId} {v : Profile}
    (d : m.Dirties { x with pc := { x.pc with profiles := x.pc.profiles.set p v } }) :
    m.Closes (x.setProfile p v) :=
  (d.trans (State.markDirty_dirties _ _)).closes (State.report_closes _ _)

/-- A replaced binding, closed (R133, R142). -/
theorem State.bindOutput_closes {x m : State} {o : OutputId} {p : ProfileId}
    (d : m.Dirties { x with pc := { x.pc with bindings := x.pc.bindings.set o p } }) :
    m.Closes (x.bindOutput o p) := by
  unfold State.bindOutput
  by_cases hsame : x.pc.bindings[o] = p
  · rw [if_pos hsame]
    have hset : x.pc.bindings.set o p = x.pc.bindings := by
      rw [← hsame]
      exact Vector.set_getElem_self _
    rw [hset] at d
    exact d.closes (State.report_closes _ _)
  · rw [if_neg hsame]
    exact (d.trans (State.markDirty_dirties _ _)).closes (State.report_closes _ _)

/-- A change of PC's block that reads no dirty set goes with the marking. -/
theorem State.Dirties.mapPc {m m' : State} (d : m.Dirties m') (f : Parental → Parental) :
    ({ m with pc := f m.pc } : State).Dirties { m' with pc := f m'.pc } := by
  have e := d.rest
  generalize m'.ss.dirty = l at e
  subst e
  exact ⟨rfl⟩

/-- Past the PIN check PIN SET's like go on from the accepted record (R126, R128). -/
theorem State.pinChecked_of_authorises {s : State} {d : List Nat} (h : s.Authorises d) (k : State → Served) :
    s.pinChecked d k = k (s.setPinRecord s.pc.record.accepted) := by
  rw [State.pinChecked, State.pinCheck_of_authorises h]

/-- A record marked before a binding awaits its write after it. -/
theorem State.bindOutput_awaits {x : State} {o : OutputId} {p : ProfileId} {q : RecordId} (h : q ∈ x.ss.dirty)
    (hq : q ≠ .sequence) : (x.bindOutput o p).awaitsWrite q := by
  unfold State.bindOutput
  by_cases hsame : x.pc.bindings[o] = p
  · rw [if_pos hsame]
    exact State.awaitsWrite_report h hq
  · rw [if_neg hsame]
    exact State.awaitsWrite_report (mem_joinDirty.2 (.inr h)) hq

/-- A new binding marks BINDINGS and decides the room (R133, R142). -/
theorem State.bindOutput_new {x : State} {o : OutputId} {p : ProfileId} (h : x.pc.bindings[o] ≠ p) :
    (x.bindOutput o p).awaitsWrite .bindings ∧
      ((x.bindOutput o p).ou[o].mode = .active → (x.bindOutput o p).Evaluated o) := by
  rw [State.bindOutput, if_neg h]
  refine ⟨State.awaitsWrite_report (mem_joinDirty.2 (.inl rfl)) (by decide), fun hactive => ?_⟩
  simp only [State.report_frame, State.markDirty_ou] at hactive
  exact State.report_evaluated _ _ o 
    (by rw [if_pos (show x.isActive o = true from beq_iff_eq.2 hactive)]; exact List.mem_singleton.2 rfl)

theorem State.setPass_passes {s : State} {o : OutputId} {p : Pass} {os : List OutputId}
    (h : ¬(s.setPass o (some p)).PassDiffers o) : ((s.setPass o (some p)).report os).pc.passes[o] = some p := by
  obtain ⟨-, passes, -⟩ := State.report_closes os (s.setPass o (some p))
  obtain hkept | ⟨-, -, hdiffers⟩ := passes o
  · rw [hkept, State.setPass_pc]
    exact Vector.getElem_set_self _
  · exact absurd hdiffers h

/-- A pass just given matches the programme on air (R136, R138). -/
theorem State.setPass_notDiffers {s : State} {o : OutputId} {ch : Nat} {pass : Pass} (hch : s.ou[o].channel = some ch)
    (hpass : (∃ e, s.current ch = some e ∧ pass = .event ch e.eventId) ∨ pass = .channel ch 240) :
    ¬(s.setPass o (some pass)).PassDiffers o := by
  rintro ⟨service, eventId, hheld, hdiffers⟩
  have hset : (s.setPass o (some pass)).pc.passes[o] = some pass := by
    rw [State.setPass_pc]
    exact Vector.getElem_set_self _
  rw [hset] at hheld
  obtain ⟨e, hcur, rfl⟩ | rfl := hpass
  · obtain ⟨rfl, rfl⟩ : ch = service ∧ e.eventId = eventId := by simpa using hheld
    refine hdiffers e ?_ rfl
    simp only [State.currentOf, State.setPass_ou, hch]
    exact hcur
  · cases hheld

/-- Settles O55: past its checks each request replaces what its rule names, and decides the rooms on it. -/
theorem profileBindAndPinEnterTakeEffect : Obligations.ProfileBindAndPinEnterTakeEffect := by
  intro s r rest d h
  refine ⟨fun hd => ⟨fun hk p c u f b w opens closes channels ho hc hlen hch hb hbad =>
      h.profileSet_badField hk ho hc hlen hch hd hb hbad,
    fun hk a b hb hbad => h.bind_badField hk hd hb hbad,
    fun hk a scope hb hbad => h.pinEnter_badField hk hd hb hbad⟩, fun hd => ⟨fun hk o scope hb hscope => ?refused,
    fun hk p v idle channels hb hform hthawed hauth => ?profile, fun hk o p hb hthawed hauth => ?bind,
    fun hk o scope ch pass hb hactive hch hblocked harmed haccepts hpass => ?enter⟩⟩
  case refused =>
    obtain ⟨sc, hsc⟩ := scopeOfCode_le hscope
    refine ⟨fun hasleep => ?_, fun hactive => ⟨fun hopen => ?_, fun hblocked hzero hnone => ?_⟩⟩
    · exact (h.pinEnter hk hb hsc hd (y := answer .standby (s.unqueued rest))
        (State.pinEnter_standby (State.awake_eq_false hasleep))).trans rfl
    all_goals have hawake : (s.unqueued rest).awake = true := (s.unqueued rest).awake_iff.2 hactive
    · have hno : ¬((s.unqueued rest).ae[o].decision.isParental = true) := fun hyes =>
        (Decision.isParental_iff.1 hyes).elim hopen
      exact (h.pinEnter hk hb hsc hd (y := answer .notBlocked (s.unqueued rest))
        (State.pinEnter_notBlocked hawake (by simpa using hno))).trans rfl
    · subst hzero
      obtain rfl : Scope.event = sc := Option.some.inj hsc
      exact (h.pinEnter hk hb hsc hd (y := answer .noEvent (s.unqueued rest))
        (State.pinEnter_noEvent hawake (Decision.isParental_iff.2 hblocked)
          (State.passFor_eq_none (s := s.unqueued rest) hnone))).trans rfl
  case profile =>
    have hexec := h.profileSet hk hb hform hd ((if_neg (by simp [hthawed])).trans
      (State.pinChecked_of_authorises (s := s.unqueued rest) hauth _))
    have hset := (State.setPinRecord_dirties s.pc.record.accepted (s.unqueued rest)).mapPc fun pc =>
      { pc with profiles := pc.profiles.set p { v with locked := lockedList channels } }
    refine ⟨_, lockedList channels, hexec, lockedList_pairwise _, fun c => mem_lockedList,
      State.Closes.pushReply ⟨r.kind ||| 0x80, r.tag, .ok, []⟩ (State.setProfile_closes hset),
      (State.awaitsWrite_report (mem_joinDirty.2 (.inl rfl)) (by simp)).pushReply _, fun hne => ?_,
      fun o hactive hbound => (State.report_evaluated _ _ o ?_).pushReply _⟩
    · refine (State.awaitsWrite_report (mem_joinDirty.2 (.inr ?_)) (by decide)).pushReply _
      exact State.mem_dirty_setPinRecord (m := s.unqueued rest) hne
    · simp only [State.boundOutputs, List.mem_filter, beq_iff_eq, State.mem_activeOutputs]
      simp only [answer, State.pushReply_ou, State.setProfile, State.report_frame, State.markDirty_ou] at hactive
      exact ⟨hactive, by simpa using hbound⟩
  case bind =>
    have hexec := h.bind hk hb hd ((if_neg (by simp [hthawed])).trans
      (State.pinChecked_of_authorises (s := s.unqueued rest) hauth _))
    have hset := (State.setPinRecord_dirties s.pc.record.accepted (s.unqueued rest)).mapPc fun pc =>
      { pc with bindings := pc.bindings.set o p }
    refine ⟨_, hexec, State.Closes.pushReply ⟨r.kind ||| 0x80, r.tag, .ok, []⟩ (State.bindOutput_closes hset),
      fun hne => ?_, fun hnew => ?_⟩
    · exact (State.bindOutput_awaits (State.mem_dirty_setPinRecord (m := s.unqueued rest) hne)
        (by decide)).pushReply _
    · have hother : ((s.unqueued rest).setPinRecord s.pc.record.accepted).pc.bindings[o] ≠ p := by
        simpa using hnew
      obtain ⟨hawaits, hroom⟩ := State.bindOutput_new hother
      exact ⟨hawaits.pushReply _, hroom⟩
  case enter =>
    have hawake : (s.unqueued rest).awake = true := (s.unqueued rest).awake_iff.2 ⟨o, hactive⟩
    obtain ⟨sc, hsc, hfor, hmatch⟩ : ∃ sc, Scope.ofCode scope.toNat = some sc ∧ s.passFor o sc = some pass ∧
        ((∃ e, s.current ch = some e ∧ pass = .event ch e.eventId) ∨ pass = .channel ch 240) := by
      obtain ⟨rfl, e, he, rfl⟩ | ⟨rfl, rfl⟩ := hpass
      · exact ⟨.event, rfl, by rw [State.passFor_event hch, he]; rfl, .inl ⟨e, he, rfl⟩⟩
      · exact ⟨.channel, rfl, State.passFor_channel hch, .inr rfl⟩
    obtain ⟨-, -, hyes⟩ := State.pinEnter_blocked (s := s.unqueued rest) (d := d) hawake
      (Decision.isParental_iff.2 hblocked) hfor
    have hexec := h.pinEnter hk hb hsc hd (hyes harmed haccepts)
    have hrecord : (s.unqueued rest).acceptPin = (s.unqueued rest).setPinRecord s.pc.record.accepted := by
      rw [State.accepted_of_armed harmed]
      rfl
    rw [hrecord] at hexec
    have hset := (State.setPinRecord_dirties s.pc.record.accepted (s.unqueued rest)).setPass o (some pass)
    have hcur : ((s.unqueued rest).setPinRecord s.pc.record.accepted).current ch = s.current ch := by
      simp [State.current, State.now]
    have hkept := State.setPass_passes (os := [o]) (State.setPass_notDiffers
      (s := (s.unqueued rest).setPinRecord s.pc.record.accepted) (o := o) (ch := ch) (by simpa using hch)
      (hcur ▸ hmatch))
    have hroom := State.report_evaluated [o] (((s.unqueued rest).setPinRecord s.pc.record.accepted).setPass o
      (some pass)) o (List.mem_singleton.2 rfl)
    have hpin (hne : s.pc.record.accepted ≠ s.pc.record) : .pin ∈
        (((s.unqueued rest).setPinRecord s.pc.record.accepted).setPass o (some pass)).ss.dirty :=
      State.mem_dirty_setPinRecord (m := s.unqueued rest) hne
    exact ⟨_, hexec, State.Closes.pushReply ⟨r.kind ||| 0x80, r.tag, .ok, []⟩
      (hset.closes (State.report_closes _ _)), hkept, hroom.pushReply _,
      fun hne => (State.awaitsWrite_report (os := [o]) (hpin hne) (by decide)).pushReply _⟩

end Sys2Proof.Machine

/-! PROOF. Entitlements and purchases: the packets of chapter 6, BUY, and the completion of a write. O49 to O53. -/

namespace Sys2Proof.Machine

/-! ### Reading a list of items -/

/-- Items written one after another are read back. -/
theorem readMany_map {α β : Type} {item : List Byte → Option (α × List Byte)} {encode : β → List Byte}
    {decode : β → α} (l : List β) (h : ∀ b ∈ l, ∀ r, item (encode b ++ r) = some (decode b, r)) (r : List Byte) :
    readMany item l.length ((l.map encode).flatten ++ r) = some (l.map decode, r) := by
  induction l with
  | nil => rfl
  | cons b l ih =>
    obtain ⟨hb, hl⟩ := List.forall_mem_cons.1 h
    rw [List.map_cons, List.flatten_cons, List.append_assoc, List.length_cons, List.map_cons]
    simp only [readMany, hb, ih hl, Option.map_some]

theorem readPair_bytes (t hi lo : Byte) (r : List Byte) :
    readPair (t :: hi :: lo :: r) = some ((t.toNat, (hi ++ lo).toNat), r) := by
  rw [readPair, beNat_pair]

theorem readPair_short {l : List Byte} (h : l.length < 3) : readPair l = none := by
  match l, h with
  | [], _ => rfl
  | [_], _ => rfl
  | [_, _], _ => rfl

theorem readPairs_short {k : Nat} {l : List Byte} (h : l.length < 3 * k) : readMany readPair k l = none := by
  induction k generalizing l with
  | zero => omega
  | succ k ih =>
    match l, h with
    | [], _ => rfl
    | [_], _ => rfl
    | [_, _], _ => rfl
    | t :: hi :: lo :: r, h =>
      have hrest : readMany readPair k r = none := ih (by simp only [List.length_cons] at h; omega)
      simp only [readMany, readPair_bytes, hrest, Option.map_none]

theorem readGrant_none {n : Byte} {more : List Byte} (h : 16 < n.toNat ∨ more.length < 3 * n.toNat) :
    readGrant (n :: more) = none := by
  unfold readGrant
  dsimp only
  split_ifs with hn
  · rfl
  · rw [readPairs_short (h.resolve_left hn), Option.map_none]

theorem readGrant_pairs {n : Byte} {pairs : List (Byte × Byte × Byte)} {rest : List Byte} (hn : n.toNat ≤ 16)
    (hlen : pairs.length = n.toNat) :
    readGrant (n :: ((pairs.map fun p => [p.1, p.2.1, p.2.2]).flatten ++ rest)) =
      some (pairs.map fun p => (p.1.toNat, (p.2.1 ++ p.2.2).toNat)) := by
  have hmany := readMany_map (item := readPair) (encode := fun p : Byte × Byte × Byte => [p.1, p.2.1, p.2.2])
    (decode := fun p : Byte × Byte × Byte => (p.1.toNat, (p.2.1 ++ p.2.2).toNat)) pairs (fun p _ r => readPair_bytes p.1 p.2.1 p.2.2 r) rest
  rw [hlen] at hmany
  unfold readGrant
  dsimp only
  rw [if_neg (by omega), hmany]
  rfl

theorem readRevoke_none {n : Byte} {more : List Byte} (h : 64 < n.toNat ∨ more.length < n.toNat) :
    readRevoke (n :: more) = none := by
  unfold readRevoke
  dsimp only
  split_ifs with hn
  · rfl
  · rw [cut_eq_none (h.resolve_left hn), Option.map_none]

theorem readRevoke_tiers {n : Byte} {tiers rest : List Byte} (hn : n.toNat ≤ 64) (hlen : tiers.length = n.toNat) :
    readRevoke (n :: (tiers ++ rest)) = some (tiers.map BitVec.toNat) := by
  unfold readRevoke
  dsimp only
  rw [if_neg (by omega), cut_eq_some.2 ⟨hlen, rfl⟩]
  rfl

theorem readUnit_none {b : Byte} {rest : List Byte} (h : 1 < b.toNat) : readUnit (b :: rest) = none := by
  unfold readUnit
  dsimp only
  rw [if_neg (by rintro rfl; simp at h), if_neg (by rintro rfl; simp at h)]

/-! ### The tier table (R93, R94) -/

theorem Entitlements.grant_tier (e : Entitlements) (p : Nat × Nat) (k : TierId) :
    (e.grant p).tiers[k] = if p.1 = k.val then { held := true, expiry := p.2 } else e.tiers[k] := by
  unfold Entitlements.grant
  by_cases h : p.1 < 64
  · rw [dif_pos h]
    exact Vector.getElem_set h k.isLt
  · rw [dif_neg h, if_neg (by omega)]

theorem Entitlements.revoke_tier (e : Entitlements) (n : Nat) (k : TierId) :
    (e.revoke n).tiers[k] = if n = k.val then { held := false, expiry := 0 } else e.tiers[k] := by
  unfold Entitlements.revoke
  by_cases h : n < 64
  · rw [dif_pos h]
    exact Vector.getElem_set h k.isLt
  · rw [dif_neg h, if_neg (by omega)]

theorem Entitlements.grant_others (e : Entitlements) (p : Nat × Nat) :
    (e.grant p).limit = e.limit ∧ (e.grant p).unitState = e.unitState := by
  unfold Entitlements.grant
  split_ifs <;> exact ⟨rfl, rfl⟩

theorem Entitlements.revoke_others (e : Entitlements) (n : Nat) :
    (e.revoke n).limit = e.limit ∧ (e.revoke n).unitState = e.unitState := by
  unfold Entitlements.revoke
  split_ifs <;> exact ⟨rfl, rfl⟩

/-- Of a GRANT's pairs the last one of a tier stands (R93). -/
theorem Entitlements.foldl_grant (e : Entitlements) (pairs : List (Byte × Byte × Byte)) :
    let e' := (pairs.map fun p => (p.1.toNat, (p.2.1 ++ p.2.2).toNat)).foldl Entitlements.grant e
    e'.limit = e.limit ∧ e'.unitState = e.unitState ∧ ∀ k : TierId, e'.tiers[k] =
      ((pairs.reverse.find? fun p => p.1.toNat == k.val).map fun p =>
        { held := true, expiry := (p.2.1 ++ p.2.2).toNat }).getD e.tiers[k] := by
  induction pairs using List.reverseRecOn with
  | nil => exact ⟨rfl, rfl, fun _ => rfl⟩
  | append_singleton pairs p ih =>
    obtain ⟨hlimit, hstate, htiers⟩ := ih
    simp only [List.map_append, List.foldl_append, List.map_cons, List.map_nil, List.foldl_cons, List.foldl_nil]
    obtain ⟨hl, hs⟩ := Entitlements.grant_others
      ((pairs.map fun p => (p.1.toNat, (p.2.1 ++ p.2.2).toNat)).foldl Entitlements.grant e)
      (p.1.toNat, (p.2.1 ++ p.2.2).toNat)
    refine ⟨hl.trans hlimit, hs.trans hstate, fun k => ?_⟩
    rw [Entitlements.grant_tier, htiers, List.reverse_append, List.reverse_singleton, List.singleton_append,
      List.find?_cons]
    by_cases hk : p.1.toNat = k.val
    · rw [if_pos hk, beq_iff_eq.2 hk]; rfl
    · rw [if_neg hk, beq_false_of_ne hk]

/-- A tier that a REVOKE names is gone (R94). -/
theorem Entitlements.foldl_revoke (e : Entitlements) (tiers : List Byte) :
    let e' := (tiers.map BitVec.toNat).foldl Entitlements.revoke e
    e'.limit = e.limit ∧ e'.unitState = e.unitState ∧ ∀ k : TierId, e'.tiers[k] =
      if tiers.any fun b => b.toNat == k.val then { held := false, expiry := 0 } else e.tiers[k] := by
  induction tiers generalizing e with
  | nil => exact ⟨rfl, rfl, fun _ => rfl⟩
  | cons b tiers ih =>
    obtain ⟨hlimit, hstate, htiers⟩ := ih (e.revoke b.toNat)
    obtain ⟨hl, hs⟩ := e.revoke_others b.toNat
    refine ⟨hlimit.trans hl, hstate.trans hs, fun k => ?_⟩
    rw [List.map_cons, List.foldl_cons, htiers, Entitlements.revoke_tier, List.any_cons]
    by_cases hk : b.toNat = k.val
    · rw [if_pos hk, beq_iff_eq.2 hk, Bool.true_or, if_pos rfl, ite_self]
    · rw [if_neg hk, beq_false_of_ne hk, Bool.false_or]

/-! ### GRANT, REVOKE, CREDIT and UNIT (O49) -/

/-- The effects that the entitlement packets share (R92). -/
theorem State.takeEntitlements_taken (e : Entitlements) (x : State) :
    (({ x with ep := { x.ep with ent := e } } : State).latch .entitlement).Closes (x.takeEntitlements e) ∧
      (x.takeEntitlements e).RoomsDecided ∧ (x.takeEntitlements e).awaitsWrite .entitlements := by
  refine ⟨?_, State.report_active_roomsDecided (by simp), State.awaitsWrite_report (mem_joinDirty.2 (.inl rfl))
    (by decide)⟩
  exact ((State.markDirty_dirties .entitlements _).latch _).closes (State.report_closes _ _)

/-- Settles O49: each packet's body is read, or ignored, and its effect closed as R92 says. -/
theorem entitlementPacketsTakeEffect : Obligations.EntitlementPacketsTakeEffect := by
  intro s body taken ignored
  have hignored {c : Instr} {kind : Byte} {f : List Byte → State → State} (h : s.Hands kind body)
      (he : exec c s = .next (s.takePacket kind f)) (hf : f body s.packetGone = s.packetGone) : ignored c := by
    change exec c s = _
    rw [h.taken he, hf]
  have htaken {c : Instr} {kind : Byte} {f : List Byte → State → State} {e : Entitlements} (h : s.Hands kind body)
      (he : exec c s = .next (s.takePacket kind f)) (hf : f body s.packetGone = s.packetGone.takeEntitlements e) :
      taken c e := by
    refine ⟨_, h.taken he, ?_⟩
    rw [hf]
    exact State.takeEntitlements_taken e s.packetGone
  refine ⟨fun h => ⟨fun hb => hignored h rfl (by rw [hb]; rfl), fun n more hb => ⟨fun hbad => ?_,
      fun pairs rest hn hlen hmore => ?_⟩⟩, fun h => ⟨fun hb => hignored h rfl (by rw [hb]; rfl),
      fun n more hb => ⟨fun hbad => ?_, fun tiers rest hn hlen hmore => ?_⟩⟩,
    fun h => ⟨fun hshort => ?_, fun hi lo rest hb => ?_⟩, fun h => ⟨fun hb => hignored h rfl (by rw [hb]; rfl),
      fun b rest hb => ⟨fun hzero => ?_, fun hone => ?_, fun hbad => ?_⟩⟩⟩
  · exact hignored h rfl (by rw [hb, readGrant_none hbad])
  · obtain ⟨hlimit, hstate, htiers⟩ := s.ep.ent.foldl_grant pairs
    refine ⟨_, htaken h rfl (by rw [hb, hmore, readGrant_pairs hn hlen]; rfl), hlimit, hstate, fun k => ?_⟩
    refine (htiers k).trans ?_
    cases pairs.reverse.find? fun p => p.1.toNat == k.val <;> rfl
  · exact hignored h rfl (by rw [hb, readRevoke_none hbad])
  · obtain ⟨hlimit, hstate, htiers⟩ := s.ep.ent.foldl_revoke tiers
    exact ⟨_, htaken h rfl (by rw [hb, hmore, readRevoke_tiers hn hlen]; rfl), hlimit, hstate, htiers⟩
  · exact hignored h rfl (by rw [readWord_short hshort])
  · exact htaken h rfl (by rw [hb, readWord_pair]; rfl)
  · exact htaken h rfl (by rw [hb, hzero]; rfl)
  · exact htaken h rfl (by rw [hb, hone]; rfl)
  · exact hignored h rfl (by rw [hb, readUnit_none hbad])

/-! ### PURACK (O52) -/

theorem readPurack_short {l : List Byte} (h : l.length < 4) : readPurack l = none := by
  rw [readPurack, readNat, cut_eq_none h]
  rfl

theorem readPurack_u32 {n : Nat} (h : n < 4294967296) (more : List Byte) : readPurack (u32 n ++ more) = some n := by
  have hcut : cut 4 (u32 n ++ more) = some (u32 n, more) := cut_eq_some.2 ⟨rfl, rfl⟩
  simp only [readPurack, readNat, hcut, Option.map_some, beNat_u32 h]

theorem Purchase.ackedBy_iff {p : Purchase} {n : Nat} : p.ackedBy n = true ↔ p.state = .opened ∧ p.seq ≤ n := by
  simp [Purchase.ackedBy]

theorem Purchase.ended_iff {p : Purchase} {now : Option Nat} :
    p.ended now = true ↔ ∃ m, now = some m ∧ p.finish ≤ m := by
  cases now <;> simp [Purchase.ended]

/-- What a PURACK leaves of a record, if anything (R109 steps 1 to 3). -/
theorem Purchase.acknowledge_eq_some {n : Nat} {now : Option Nat} {p q : Purchase} :
    q.acknowledge n now = some p ↔ (p = q ∧ q.ackedBy n = false) ∨
      (q.ackedBy n = true ∧ q.ended now = false ∧ p = { q with state := .reported }) := by
  unfold Purchase.acknowledge
  cases hacked : q.ackedBy n <;> cases hended : q.ended now <;> simp [eq_comm]

theorem Purchase.acknowledge_seq {n : Nat} {now : Option Nat} {p q : Purchase} (h : q.acknowledge n now = some p) :
    p.seq = q.seq := by
  obtain ⟨rfl, -⟩ | ⟨-, -, rfl⟩ := Purchase.acknowledge_eq_some.1 h <;> rfl

/-- A filter that keeps a number keeps the order of numbers. -/
theorem filterMap_sublist {α β : Type} {f : α → Option α} {g : α → β} (h : ∀ a b, f a = some b → g b = g a)
    (l : List α) : ((l.filterMap f).map g).Sublist (l.map g) := by
  induction l with
  | nil => exact .slnil
  | cons a l ih =>
    rw [List.map_cons, List.filterMap_cons]
    cases hf : f a with
    | none => exact ih.cons _
    | some b =>
      rw [List.map_cons, h a b hf]
      exact ih.cons_cons _

/-- A PURACK's log and number, before its event closes (R109). -/
def State.acknowledged (n : Nat) (s : State) : State :=
  { s with ep := { s.ep with
      log := s.ep.log.filterMap (Purchase.acknowledge n s.now)
      seq := { s.ep.seq with acked := max s.ep.seq.acked (min n (s.ep.seq.next - 1)) } } }

/-- The slots and the number that a PURACK marks (R109). -/
theorem State.takePurack_cases (n : Nat) (s : State) :
    ∃ m, (s.acknowledged n).Dirties m ∧
      (∀ p ∈ s.ep.log, p.ackedBy n = true → .slot p.slot ∈ m.ss.dirty) ∧
      (s.ep.seq.acked < (s.acknowledged n).ep.seq.acked → .sequence ∈ m.ss.dirty) ∧
      ((∀ p ∈ s.ep.log, p.ackedBy n = false) → s.takePurack n = m.report []) ∧
      ((∃ p ∈ s.ep.log, p.ackedBy n = true) → s.takePurack n = (m.latch .entitlement).report
        ((s.ep.log.filter fun p => p.ackedBy n).flatMap fun p => s.outputsOn p.service)) := by
  have hslots := (s.acknowledged n).markSlots_dirties (s.ep.log.filter fun p => p.ackedBy n)
  refine ⟨if s.ep.seq.acked < (s.acknowledged n).ep.seq.acked
    then ((s.acknowledged n).markSlots (s.ep.log.filter fun p => p.ackedBy n)).markDirty .sequence
    else (s.acknowledged n).markSlots (s.ep.log.filter fun p => p.ackedBy n), ?_, fun p hp hacked => ?_,
    fun hraised => ?_, fun hnone => if_pos ?_, fun hsome => if_neg ?_⟩
  · split_ifs
    · exact hslots.trans (State.markDirty_dirties _ _)
    · exact hslots
  · have hmem : RecordId.slot p.slot ∈
        ((s.acknowledged n).markSlots (s.ep.log.filter fun p => p.ackedBy n)).ss.dirty :=
      State.mem_dirty_markSlots.2 (.inl ⟨p, List.mem_filter.2 ⟨hp, hacked⟩, rfl⟩)
    split_ifs
    · exact mem_joinDirty.2 (.inr hmem)
    · exact hmem
  · rw [if_pos hraised]
    exact mem_joinDirty.2 (.inl rfl)
  · simpa using hnone
  · simpa using hsome

/-- Settles O52: the records a PURACK covers, their slots marked, and what the event's close decides. -/
theorem purackReportsOpenPurchases : Obligations.PurackReportsOpenPurchases := by
  intro s body h
  refine ⟨fun hshort => ?_, fun n more hb hn => ?_⟩
  · rw [h.taken (c := .purack) rfl, readPurack_short hshort]
  · have hexec : exec .purack s = .next (s.packetGone.takePurack n) := by
      rw [h.taken (c := .purack) rfl, hb, readPurack_u32 hn]
    obtain ⟨m, hmark, hslots, hseq, hnone, hsome⟩ := s.packetGone.takePurack_cases n
    refine ⟨_, (s.packetGone.acknowledged n).ep.log, hexec, ⟨fun ⟨p, hp, hcov⟩ => ?_, fun hcov => ?_⟩, fun p => ?_,
      filterMap_sublist (fun _ _ => Purchase.acknowledge_seq) _, fun hraised => ?_, fun p hp hcov => ?_⟩
    · rw [hsome ⟨p, hp, Purchase.ackedBy_iff.2 hcov⟩]
      exact (hmark.latch _).closes (State.report_closes _ _)
    · rw [hnone fun p hp => Bool.eq_false_iff.2 fun hacked => hcov p hp (Purchase.ackedBy_iff.1 hacked)]
      exact hmark.closes (State.report_closes _ _)
    · change p ∈ s.ep.log.filterMap _ ↔ _
      simp only [List.mem_filterMap, Purchase.acknowledge_eq_some]
      constructor
      · rintro ⟨q, hq, ⟨rfl, hout⟩ | ⟨hacked, hlive, rfl⟩⟩
        · exact .inl ⟨hq, fun hcov => by rw [Purchase.ackedBy_iff.2 hcov] at hout; cases hout⟩
        · refine .inr ⟨q, hq, Purchase.ackedBy_iff.1 hacked, fun hend => ?_, rfl⟩
          rw [show q.ended s.packetGone.now = true from Purchase.ended_iff.2 hend] at hlive
          cases hlive
      · rintro (⟨hp, hout⟩ | ⟨q, hq, hcov, hlive, rfl⟩)
        · exact ⟨p, hp, .inl ⟨rfl, Bool.eq_false_iff.2 fun hacked => hout (Purchase.ackedBy_iff.1 hacked)⟩⟩
        · exact ⟨q, hq, .inr ⟨Purchase.ackedBy_iff.2 hcov,
            Bool.eq_false_iff.2 fun hend => hlive (Purchase.ended_iff.1 hend), rfl⟩⟩
    · have hep : (s.packetGone.takePurack n).ep = (s.packetGone.acknowledged n).ep := by
        simp [State.acknowledged]
      rw [hep] at hraised
      have hdirty := hseq hraised
      by_cases hcov : ∃ p ∈ s.ep.log, p.ackedBy n = true
      · rw [hsome hcov]
        exact State.awaitsSequence_report hdirty
      · rw [hnone fun p hp => Bool.eq_false_iff.2 fun hacked => hcov ⟨p, hp, hacked⟩]
        exact State.awaitsSequence_report hdirty
    · have hacked := Purchase.ackedBy_iff.2 hcov
      rw [hsome ⟨p, hp, hacked⟩]
      refine ⟨State.awaitsWrite_report (hslots p hp hacked) (by simp), fun o hactive hch =>
        State.report_evaluated _ _ o (List.mem_flatMap.2 ⟨p, List.mem_filter.2 ⟨hp, hacked⟩,
          State.mem_outputsOn.2 ?_⟩)⟩
      have hou : ((m.latch .entitlement).report ((s.packetGone.ep.log.filter fun p => p.ackedBy n).flatMap fun p =>
          s.packetGone.outputsOn p.service)).ou = s.ou := by
        simp [hmark.ou, State.acknowledged]
      rw [hou] at hactive hch
      exact ⟨hactive, hch⟩

/-! ### The free slots (R98) -/

theorem Purchasing.inSlot_isNone {e : Purchasing} {k : SlotId} :
    (e.inSlot k).isNone = true ↔ ∀ p ∈ e.log, p.slot ≠ k := by
  simp [Purchasing.inSlot]

/-- With fewer than 32 records a slot is free. -/
theorem Purchasing.exists_free {e : Purchasing} (h : e.log.length < 32) : ∃ k : SlotId, ∀ p ∈ e.log, p.slot ≠ k := by
  by_contra hfull
  push Not at hfull
  have hsub : List.finRange 32 ⊆ e.log.map Purchase.slot := fun k _ => by
    obtain ⟨p, hp, hk⟩ := hfull k
    exact List.mem_map.2 ⟨p, hp, hk⟩
  have hlen := ((List.nodup_finRange 32).subperm hsub).length_le
  rw [List.length_finRange, List.length_map] at hlen
  omega

/-- The first member of an ascending list with a property is the least one. -/
theorem find?_least {α : Type} [LinearOrder α] {l : List α} (hl : l.Pairwise (· < ·)) {P : α → Bool} {k : α}
    (h : l.find? P = some k) {j : α} (hj : j ∈ l) (hlt : j < k) : P j = false := by
  obtain ⟨-, before, after, rfl, hbefore⟩ := List.find?_eq_some_iff_append.1 h
  obtain hj | hj := List.mem_append.1 hj
  · simpa using hbefore j hj
  · exfalso
    obtain rfl | hj := List.mem_cons.1 hj
    · exact lt_irrefl _ hlt
    · exact lt_asymm hlt ((List.pairwise_cons.1 (List.pairwise_append.1 hl).2.1).1 j hj)

/-- BUY takes the lowest free slot (R104). -/
theorem Purchasing.freeSlot_lowest {e : Purchasing} (h : e.log.length < 32) :
    (∀ p ∈ e.log, p.slot ≠ e.freeSlot) ∧ ∀ j < e.freeSlot, ∃ p ∈ e.log, p.slot = j := by
  obtain ⟨k, hk⟩ := Purchasing.exists_free h
  obtain ⟨free, hfree⟩ : ∃ free, (List.finRange 32).find? (fun k => (e.inSlot k).isNone) = some free := by
    rw [← Option.isSome_iff_exists, List.find?_isSome]
    exact ⟨k, List.mem_finRange k, Purchasing.inSlot_isNone.2 hk⟩
  have hslot : e.freeSlot = free := by rw [Purchasing.freeSlot, hfree]; rfl
  rw [hslot]
  refine ⟨Purchasing.inSlot_isNone.1 (List.find?_some (p := fun k => (e.inSlot k).isNone) hfree), fun j hj => ?_⟩
  have hused := find?_least (List.pairwise_lt_finRange 32) hfree (List.mem_finRange j) hj
  by_contra hno
  push Not at hno
  rw [Purchasing.inSlot_isNone.2 hno] at hused
  cases hused

/-! ### BUY's checks (R101) -/

section
variable {s : State} {o : OutputId} {d : List Nat} {x : MapEntry} {n : Nat} {e : GuideEvent}

theorem State.buyChecks_noChannel (h : s.entryOf o = none) : s.buyChecks o = .error .noChannel := by
  simp only [State.buyChecks, h]

theorem State.buyChecks_notPay (h : s.entryOf o = some x) (hpay : x.access ≠ .pay) :
    s.buyChecks o = .error .notPay := by
  simp only [State.buyChecks, h, if_pos hpay]

theorem State.buyChecks_disconnected (h : s.entryOf o = some x) (hpay : x.access = .pay)
    (hunit : s.ep.ent.unitState = .disconnected) : s.buyChecks o = .error .disconnected := by
  simp only [State.buyChecks, h, if_neg (not_not.2 hpay), if_pos hunit]

theorem State.buyChecks_noTime (h : s.entryOf o = some x) (hpay : x.access = .pay)
    (hunit : s.ep.ent.unitState = .active) (hnow : s.now = none) : s.buyChecks o = .error .noTime := by
  have hconnected : s.ep.ent.unitState ≠ .disconnected := by rw [hunit]; decide
  simp only [State.buyChecks, h, if_neg (not_not.2 hpay), if_neg hconnected, hnow]

theorem State.buyChecks_noEvent (h : s.entryOf o = some x) (hpay : x.access = .pay)
    (hunit : s.ep.ent.unitState = .active) (hnow : s.now = some n) (hcur : s.current x.channel = none) :
    s.buyChecks o = .error .noEvent := by
  have hconnected : s.ep.ent.unitState ≠ .disconnected := by rw [hunit]; decide
  simp only [State.buyChecks, h, if_neg (not_not.2 hpay), if_neg hconnected, hnow, hcur]

theorem State.buyChecks_programme (h : s.entryOf o = some x) (hpay : x.access = .pay)
    (hunit : s.ep.ent.unitState = .active) (hnow : s.now = some n) (hcur : s.current x.channel = some e) :
    s.buyChecks o = s.buyProgramme o x.channel n e := by
  have hconnected : s.ep.ent.unitState ≠ .disconnected := by rw [hunit]; decide
  simp only [State.buyChecks, h, if_neg (not_not.2 hpay), if_neg hconnected, hnow, hcur]

theorem State.buyProgramme_free {ch : Nat} (h : e.price = 0) : s.buyProgramme o ch n e = .error .notPay := if_pos h

theorem State.buyProgramme_parental {ch : Nat} (h : e.price ≠ 0) (hb : s.ae[o].decision.isParental = true) :
    s.buyProgramme o ch n e = .error .parental := (if_neg h).trans (if_pos hb)

theorem State.buyProgramme_already {ch : Nat} (h : e.price ≠ 0) (hb : s.ae[o].decision.isParental = false)
    (hr : s.ep.recordFor ch e.eventId ≠ none) : s.buyProgramme o ch n e = .error .already := by
  obtain ⟨p, hp⟩ := Option.ne_none_iff_exists'.1 hr
  simp only [State.buyProgramme, if_neg h, hb, hp, Bool.false_eq_true, if_false]

theorem State.buyProgramme_ok {ch : Nat} (h : e.price ≠ 0) (hb : s.ae[o].decision.isParental = false)
    (hr : s.ep.recordFor ch e.eventId = none) : s.buyProgramme o ch n e = .ok (ch, n, e) := by
  simp only [State.buyProgramme, if_neg h, hb, hr, Bool.false_eq_true, if_false]

theorem State.buy_standby (h : s.awake = false) : s.buy o d = answer .standby s := by
  simp only [State.buy, h, Bool.not_false, if_true]

theorem State.buy_refused {st : Status} (h : s.awake = true) (hc : s.buyChecks o = .error st) :
    s.buy o d = answer st s := by
  simp only [State.buy, h, hc, Bool.not_true, Bool.false_eq_true, if_false]

theorem State.buy_pinRefused {ch : Nat} {y : Served} (h : s.awake = true) (hc : s.buyChecks o = .ok (ch, n, e))
    (hp : s.buyPin o d = .error y) : s.buy o d = y := by
  simp only [State.buy, h, hc, hp, Bool.not_true, Bool.false_eq_true, if_false]

theorem State.buy_pinPassed {ch : Nat} {y : State} (h : s.awake = true) (hc : s.buyChecks o = .ok (ch, n, e))
    (hp : s.buyPin o d = .ok y) : s.buy o d = y.buyRoom ch n e := by
  simp only [State.buy, h, hc, hp, Bool.not_true, Bool.false_eq_true, if_false]

/-- Check 10 where the profile asks for a PIN, and where it asks for none or accepts the field (R102). -/
theorem State.buyPin_asked (h : (s.boundProfile o).purchasePin = true) : s.buyPin o d = s.pinCheck d := if_pos h

theorem State.buyPin_passed (h : (s.boundProfile o).purchasePin = false ∨ s.Authorises d) :
    s.buyPin o d = .ok (s.setPinRecord
      (if (s.boundProfile o).purchasePin then s.pc.record.accepted else s.pc.record)) := by
  unfold State.buyPin
  by_cases hasked : (s.boundProfile o).purchasePin = true
  · rw [if_pos hasked, if_pos hasked, State.pinCheck_of_authorises (h.resolve_left (by simp [hasked]))]
  · rw [if_neg hasked, if_neg hasked, State.setPinRecord_self]

theorem State.buyRoom_logFull {ch : Nat} (h : 32 ≤ s.ep.log.length ∨ s.ep.seq.next = 4294967295) :
    s.buyRoom ch n e = answer .logFull (s.report []) := if_pos h

theorem State.buyRoom_noCredit {ch : Nat} (hlen : s.ep.log.length < 32) (hnext : s.ep.seq.next ≠ 4294967295)
    (h : s.ep.ent.limit < s.ep.creditUsed + e.price) : s.buyRoom ch n e = answer .noCredit (s.report []) :=
  (if_neg (not_or.2 ⟨not_le.2 hlen, hnext⟩)).trans (if_pos h)

theorem State.buyRoom_accepted {ch : Nat} (hlen : s.ep.log.length < 32) (hnext : s.ep.seq.next ≠ 4294967295)
    (h : s.ep.creditUsed + e.price ≤ s.ep.ent.limit) :
    s.buyRoom ch n e =
      ⟨s.acceptBuy ch n e, .accepted, u32 s.ep.seq.next ++ u16 (s.acceptBuy ch n e).ep.creditUsed⟩ :=
  (if_neg (not_or.2 ⟨not_le.2 hlen, hnext⟩)).trans (if_neg (not_lt.2 h))

/-- BUY with its fields in their form (R100). -/
theorem State.Serves.buy {r : Request} {rest : List Request} {y : Served} (h : s.Serves r rest) (hk : r.kind = 0x30)
    (hb : r.body = BitVec.ofNat 8 o.val :: pinField d) (hd : PinForm d) (hy : (s.unqueued rest).buy o d = y) :
    exec .buy s = .next (y.state.pushReply ⟨r.kind ||| 0x80, r.tag, y.status, y.body⟩) := by
  have hread := readBuy_pinField hd.bytes (BitVec.ofNat 8 o.val)
  rw [toNat_ofNat_fin o] at hread
  refine h.served rfl hk (hb ▸ hread) ?_
  rw [dif_pos o.isLt, if_pos (pinFormOk_iff.2 hd)]
  exact hy

theorem State.Serves.buy_badField {r : Request} {rest : List Request} {b : Byte} (h : s.Serves r rest)
    (hk : r.kind = 0x30) (hb : r.body = b :: pinField d) (hd : PinBytes d) (hbad : 3 < b.toNat ∨ ¬PinForm d) :
    exec .buy s = .next (s.answered r rest .badField []) := by
  refine h.answers rfl hk (hb ▸ readBuy_pinField hd b) ?_
  by_cases hlt : b.toNat < 4
  · rw [dif_pos hlt, if_neg (pinFormOk_iff.not.2 (hbad.resolve_left (by omega)))]
    rfl
  · rw [dif_neg hlt]
    rfl

end

/-- With an engine at work or nothing dirty, an event that evaluates no output changes nothing (R208). -/
theorem State.report_nil_of_rest {s : State} (h : s.ss.engine = none → s.ss.dirty = []) : s.report [] = s := by
  have hnone : s.evaluateAll [] = s := by simp [State.evaluateAll, allOutputs]
  rw [State.report, hnone]
  obtain ⟨hsame, -⟩ | ⟨q, rest, hidle, hdirty, -⟩ := s.startWrite_cases
  · exact hsame
  · rw [h hidle] at hdirty
    cases hdirty

/-! ### BUY's refusals (O51) -/

/-- Settles O51: BUY refuses at its first check that fails. -/
theorem buyRefusesInOrder : Obligations.BuyRefusesInOrder := by
  intro s r rest b pin h hk hb hlen hpin hstore refused
  refine ⟨fun hbad => h.buy_badField hk hb ⟨hlen, hpin⟩ hbad, ?_⟩
  rintro o rfl hform
  have hrefused {st : Status} (hy : (s.unqueued rest).buy o pin = answer st (s.unqueued rest)) : refused st :=
    (h.buy hk hb hform hy).trans rfl
  refine ⟨fun hasleep => hrefused (State.buy_standby (State.awake_eq_false hasleep)), fun hactive => ?_⟩
  have hawake : (s.unqueued rest).awake = true := (s.unqueued rest).awake_iff.2 hactive
  have hcheck {st : Status} (hc : s.buyChecks o = .error st) : refused st :=
    hrefused (State.buy_refused hawake hc)
  refine ⟨fun hnone => hcheck (State.buyChecks_noChannel hnone), fun x hx =>
    ⟨fun hpay => hcheck (State.buyChecks_notPay hx hpay), fun hpay =>
      ⟨fun hunit => hcheck (State.buyChecks_disconnected hx hpay hunit), fun hunit =>
        ⟨fun hclock => hcheck (State.buyChecks_noTime hx hpay hunit (by rw [State.now, hclock]; rfl)),
          fun hclock hcur => ?noEvent, fun e hclock hcur => ?programme⟩⟩⟩⟩
  all_goals
    obtain ⟨c, hc⟩ := Option.ne_none_iff_exists'.1 hclock
    have hnow : s.now = some c.now := by rw [State.now, hc]; rfl
  case noEvent => exact hcheck (State.buyChecks_noEvent hx hpay hunit hnow hcur)
  case programme =>
    have hprog := State.buyChecks_programme hx hpay hunit hnow hcur
    refine ⟨fun hfree => hcheck (hprog.trans (State.buyProgramme_free hfree)), fun hprice =>
      ⟨fun hblocked => hcheck (hprog.trans (State.buyProgramme_parental hprice (Decision.isParental_iff.2 hblocked))),
        fun hopen => ?_⟩⟩
    have hopen' : s.ae[o].decision.isParental = false := Bool.eq_false_iff.2 fun hyes =>
      (Decision.isParental_iff.1 hyes).elim hopen
    refine ⟨fun hheld => hcheck (hprog.trans (State.buyProgramme_already hprice hopen' hheld)), fun hnew => ?_⟩
    have hok : (s.unqueued rest).buyChecks o = .ok (x.channel, c.now, e) :=
      hprog.trans (State.buyProgramme_ok hprice hopen' hnew)
    refine ⟨fun hasked hlocked => ?locked, fun hasked harmed hno => ?wrong, fun hpass => ?past⟩
    case locked =>
      refine hrefused (State.buy_pinRefused hawake hok ?_)
      rw [State.buyPin_asked (s := s.unqueued rest) hasked, State.pinCheck_lockedOut (s := s.unqueued rest) hlocked]
    case wrong =>
      have hexec := h.buy hk hb hform (State.buy_pinRefused hawake hok
        ((State.buyPin_asked (s := s.unqueued rest) hasked).trans
          (State.pinCheck_wrong (s := s.unqueued rest) harmed hno)))
      refine ⟨fun hfew => ?_, fun hfifth => ?_⟩
      · obtain ⟨hcloses, hawaits⟩ := State.countWrong_few (m := s.unqueued rest) hfew
        exact ⟨_, hexec, hawaits.pushReply _, hcloses.pushReply _⟩
      · obtain ⟨hcloses, hawaits, hrooms⟩ := State.countWrong_fifth (m := s.unqueued rest) hfifth
        exact ⟨_, hexec, hawaits.pushReply _, hrooms.pushReply _, hcloses.pushReply _⟩
    case past =>
      have hbuy := State.buy_pinPassed hawake hok (State.buyPin_passed (s := s.unqueued rest) (o := o) (d := pin) hpass)
      intro record after
      have hafter {st : Status} (hroom : ((s.unqueued rest).setPinRecord record).buyRoom x.channel c.now e =
          answer st (((s.unqueued rest).setPinRecord record).report [])) : after st := by
        refine ⟨_, h.buy hk hb hform (hbuy.trans hroom), State.Closes.pushReply ⟨r.kind ||| 0x80, r.tag, st, []⟩
          ((State.setPinRecord_dirties record _).closes (State.report_closes _ _)), fun hsame => ?_⟩
        have hset : (s.unqueued rest).setPinRecord record = s.unqueued rest := by
          rw [hsame]
          exact (s.unqueued rest).setPinRecord_self
        rw [hset, State.report_nil_of_rest (s := s.unqueued rest) hstore.2.1]
        rfl
      refine ⟨fun hfull => hafter (State.buyRoom_logFull ?_), fun hfits hnext hcredit =>
        hafter (State.buyRoom_noCredit ?_ ?_ ?_)⟩
      all_goals simpa using by assumption

/-! ### An accepted BUY (O50) -/

section
variable {m x : State} {ch n : Nat} {e : GuideEvent}

/-- The log and the next number after an accepted BUY (R104). -/
def State.bought (ch n : Nat) (e : GuideEvent) (s : State) : State :=
  { s with ep := { s.ep with log := s.ep.log ++ [s.ep.newRecord ch n e]
                             seq := { s.ep.seq with next := s.ep.seq.next + 1 } } }

/-- What an accepted BUY marks before its event closes (R104). -/
theorem State.acceptBuy_eq (ch n : Nat) (e : GuideEvent) (x : State) :
    x.acceptBuy ch n e =
      (let y := ((x.bought ch n e).markDirty (.slot x.ep.freeSlot)).markDirty .sequence
       if x.ep.log.length = 27 then y.latch .logNearFull else y).report (x.outputsOn ch) := by
  have hlen : (x.ep.log ++ [x.ep.newRecord ch n e]).length = 28 ↔ x.ep.log.length = 27 := by
    rw [List.length_append, List.length_singleton]
    omega
  unfold State.acceptBuy
  simp only [Config.logNearFull, hlen]
  rfl

theorem State.Dirties.bought (d : m.Dirties x) : (m.bought ch n e).Dirties (x.bought ch n e) := by
  have e := d.rest
  generalize x.ss.dirty = l at e
  subst e
  exact ⟨rfl⟩

theorem State.acceptBuy_closes (d : m.Dirties x) :
    (if x.ep.log.length = 27 then (m.bought ch n e).latch .logNearFull else m.bought ch n e).Closes
      (x.acceptBuy ch n e) := by
  have hmark := (d.bought (ch := ch) (n := n) (e := e)).trans
    ((State.markDirty_dirties (.slot x.ep.freeSlot) _).trans (State.markDirty_dirties .sequence _))
  rw [State.acceptBuy_eq]
  dsimp only
  split_ifs
  · exact (hmark.latch _).closes (State.report_closes _ _)
  · exact hmark.closes (State.report_closes _ _)

/-- The records that await their writes after an accepted BUY (R104). -/
theorem State.acceptBuy_awaits :
    (x.acceptBuy ch n e).awaitsWrite (.slot x.ep.freeSlot) ∧ (x.acceptBuy ch n e).awaitsSequence ∧
      ∀ q ∈ x.ss.dirty, q ≠ .sequence → (x.acceptBuy ch n e).awaitsWrite q := by
  rw [State.acceptBuy_eq]
  have hdirty : (if x.ep.log.length = 27
      then (((x.bought ch n e).markDirty (.slot x.ep.freeSlot)).markDirty .sequence).latch .logNearFull
      else ((x.bought ch n e).markDirty (.slot x.ep.freeSlot)).markDirty .sequence).ss.dirty =
        joinDirty .sequence (joinDirty (.slot x.ep.freeSlot) x.ss.dirty) := by
    split_ifs <;> rfl
  dsimp only
  refine ⟨State.awaitsWrite_report ?_ (by simp), State.awaitsSequence_report ?_, fun q hq hne =>
    State.awaitsWrite_report ?_ hne⟩
  all_goals simp [mem_joinDirty, *]

theorem State.acceptBuy_evaluated {o : OutputId} (hactive : x.ou[o].mode = .active)
    (hch : x.ou[o].channel = some ch) : (x.acceptBuy ch n e).Evaluated o := by
  rw [State.acceptBuy_eq]
  exact State.report_evaluated _ _ o (State.mem_outputsOn.2 ⟨hactive, hch⟩)

@[simp] theorem State.acceptBuy_ou : (x.acceptBuy ch n e).ou = x.ou := by
  rw [State.acceptBuy_eq]
  dsimp only
  split_ifs <;> simp [State.bought]

theorem State.acceptBuy_creditUsed : (x.acceptBuy ch n e).ep.creditUsed = x.ep.creditUsed + e.price := by
  have hep : (x.acceptBuy ch n e).ep = (x.bought ch n e).ep := by
    rw [State.acceptBuy_eq]
    dsimp only
    split_ifs <;> simp
  have hcounts : [x.ep.newRecord ch n e].filter Purchase.counts = [x.ep.newRecord ch n e] := rfl
  rw [hep, State.bought, Purchasing.creditUsed, List.filter_append, hcounts, List.map_append, List.sum_append]
  rfl

end

/-- Settles O50: the record is appended in the lowest free slot, and the event closed on its channel. -/
theorem buyAppendsAPendingPurchase : Obligations.BuyAppendsAPendingPurchase := by
  intro s r rest o pin ch n x e h hk hb hform hactive hch hx hpay hunit hnow hcur hprice hopen hnew hpass hlen hnext
    hcredit record
  have hawake : (s.unqueued rest).awake = true := (s.unqueued rest).awake_iff.2 ⟨o, hactive⟩
  obtain rfl : x.channel = ch := (Lineup.mem_of_resolve hx).2
  have hentry : s.entryOf o = some x := by simp only [State.entryOf, hch, hx]
  have hopen' : s.ae[o].decision.isParental = false := Bool.eq_false_iff.2 fun hyes =>
    (Decision.isParental_iff.1 hyes).elim hopen
  have hok : (s.unqueued rest).buyChecks o = .ok (x.channel, n, e) :=
    (State.buyChecks_programme hentry hpay hunit hnow hcur).trans (State.buyProgramme_ok hprice hopen' hnew)
  have hroom := State.buyRoom_accepted (s := (s.unqueued rest).setPinRecord record) (ch := x.channel) (n := n)
    (e := e) (by simpa using hlen) (by simpa using hnext) (by simpa using hcredit)
  have hep : ((s.unqueued rest).setPinRecord record).ep = s.ep := by simp
  have hou : ((s.unqueued rest).setPinRecord record).ou = s.ou := by simp
  rw [State.acceptBuy_creditUsed, hep] at hroom
  have hexec := h.buy hk hb hform ((State.buy_pinPassed hawake hok
    (State.buyPin_passed (s := s.unqueued rest) (o := o) (d := pin) hpass)).trans hroom)
  obtain ⟨hfree, hlowest⟩ := Purchasing.freeSlot_lowest hlen
  obtain ⟨hslot, hseq, hothers⟩ := State.acceptBuy_awaits (x := (s.unqueued rest).setPinRecord record)
    (ch := x.channel) (n := n) (e := e)
  have hcloses := State.acceptBuy_closes (ch := x.channel) (n := n) (e := e)
    (State.setPinRecord_dirties record (s.unqueued rest))
  rw [hep] at hslot hcloses
  refine ⟨_, s.ep.freeSlot, hexec, hfree, hlowest, ?closes, hslot.pushReply _, hseq.pushReply _, fun hne =>
    ?pin, fun p hp hpch => ?rooms⟩
  case closes =>
    dsimp only
    by_cases hnear : s.ep.log.length = 27
    · rw [if_pos hnear] at hcloses ⊢
      exact hcloses.pushReply _
    · rw [if_neg hnear] at hcloses ⊢
      exact hcloses.pushReply _
  case pin =>
    exact (hothers _ (State.mem_dirty_setPinRecord (m := s.unqueued rest) hne) (by decide)).pushReply _
  case rooms =>
    rw [State.pushReply_ou, State.acceptBuy_ou] at hp hpch
    exact (State.acceptBuy_evaluated hp hpch).pushReply _

/-! ### The completion of a write (O53) -/

/-- With an IDLE engine the close of an event starts the write of the dirty record highest in class order (R208). -/
theorem State.report_startsNext {y : State} (os : List OutputId) (h : y.ss.engine = none) :
    (y.ss.dirty = [] → (y.report os).ss.dirty = [] ∧ (y.report os).ss.engine = none) ∧
      ∀ d ds, y.ss.dirty = d :: ds → (y.report os).ss.engine = some ((y.report os).supply d) ∧
        ∀ x, x ∈ (y.report os).ss.dirty ↔ x ∈ ds ∧ ¬(x = .sequence ∧ ∃ k, d = .slot k) := by
  have hss : (y.evaluateAll os).ss = y.ss := by rw [(y.evaluateAll_evaluates os).rest]
  unfold State.report
  generalize y.evaluateAll os = z at hss ⊢
  obtain ⟨hsame, hbusy | hempty⟩ | ⟨q, rest, -, hdirty, hstart⟩ := z.startWrite_cases
  · exact absurd (hss ▸ h) hbusy
  · rw [hsame, ← hss]
    exact ⟨fun _ => ⟨hempty, hss ▸ h⟩, fun d ds hd => by rw [hempty] at hd; cases hd⟩
  · rw [hss] at hdirty
    refine ⟨fun hnone => by (rw [hdirty] at hnone; cases hnone), fun d ds hd => ?_⟩
    obtain ⟨rfl, rfl⟩ := List.cons_eq_cons.1 (hdirty.symm.trans hd)
    rw [hstart]
    exact ⟨congrArg some (by cases q <;> rfl), fun x => mem_dirtyAfterStart⟩

theorem State.report_nil (s : State) : s.report [] = s.startWrite := by
  simp [State.report, State.evaluateAll, allOutputs]

/-- The state as a completed write leaves its record, before EP is told and the next write starts (R210). -/
def State.written (c : Content) (s : State) : State :=
  { s with ss := { s.ss with records := s.ss.records.store c, engine := none } }

/-- The log with the purchase `x` complete, and PURCHASE_DONE latched (R107). -/
def State.purchaseDone (x : Purchase) (s : State) : State :=
  ({ s with ep := { s.ep with
      log := s.ep.log.map fun y => if y = x then { y with state := .opened } else y
      lastCompleted := some x.seq } } : State).latch .purchaseDone

/-- A completion ends with the close of an event that touches the log alone (R107, R210). -/
theorem State.completeWrite_cases (c : Content) (s : State) :
    (∃ k p w x, c = .slot k (some p) w ∧ s.ep.inSlot k = some x ∧ x.state = .pending ∧ x.seq = p.seq ∧
      s.completeWrite c = ((s.written c).purchaseDone x).report (s.outputsOn x.service)) ∨
    ((∀ k p w x, c = .slot k (some p) w → s.ep.inSlot k = some x → x.state = .pending → x.seq ≠ p.seq) ∧
      s.completeWrite c = (s.written c).report []) := by
  by_cases hdone : ∃ k p w x, c = .slot k (some p) w ∧ s.ep.inSlot k = some x ∧ x.state = .pending ∧ x.seq = p.seq
  · obtain ⟨k, p, w, x, rfl, hin, hstate, hseq⟩ := hdone
    refine .inl ⟨k, p, w, x, rfl, hin, hstate, hseq, ?_⟩
    simp only [State.completeWrite, State.completePurchase, hin,
      if_pos (show x.state = .pending ∧ x.seq = p.seq from ⟨hstate, hseq⟩)]
    rfl
  · push Not at hdone
    refine .inr ⟨hdone, ?_⟩
    cases c
    case slot k p w =>
      cases p with
      | none => rfl
      | some p =>
        cases hin : s.ep.inSlot k with
        | none => simp only [State.completeWrite, State.completePurchase, hin]; rfl
        | some x =>
          have hno : ¬(x.state = .pending ∧ x.seq = p.seq) := fun hyes => hdone k p w x rfl hin hyes.1 hyes.2
          simp only [State.completeWrite, State.completePurchase, hin, if_neg hno]
          rfl
    all_goals exact ((s.written _).report_nil).symm

/-- The close of an event reads no engine. -/
theorem State.Closes.setEngine {m t : State} (h : m.Closes t) (e : Option Content) :
    ({ m with ss := { m.ss with engine := e } } : State).Closes t := by
  obtain ⟨rest, passes, kept, others, wave⟩ := h
  exact ⟨rest, passes, kept, others, wave⟩

/-- The record takes what the write carried, with its check value (R204, R210). -/
theorem State.written_report (c : Content) (s : State) :
    (s.written c).report [] = { s.written c with ss := { (s.written c).ss with
      dirty := ((s.written c).report []).ss.dirty, engine := ((s.written c).report []).ss.engine } } := by
  rw [State.report_nil]
  exact (s.written c).startWrite_rest

/-- Settles O53: the write's record, the purchase it completes, and the write that follows. -/
theorem writeCompletionStoresAndGoesOn : Obligations.WriteCompletionStoresAndGoesOn := by
  intro s
  refine ⟨fun hidle => by simp only [exec, execWriteCompletion, hidle], fun c hbusy => ?_⟩
  intro q records stored
  have hexec : exec .writeCompletion s = .next (s.completeWrite c) := by
    simp only [exec, execWriteCompletion, hbusy]
  have hrecords : records = s.ss.records.store c := by cases c <;> rfl
  refine ⟨_, hexec, ?_⟩
  clear_value records
  subst hrecords
  obtain ⟨k, p, w, x, rfl, hin, hstate, hseq, heq⟩ | ⟨hnot, heq⟩ := s.completeWrite_cases c
  · obtain ⟨hempty, hnext⟩ := State.report_startsNext
      (y := (s.written (.slot k (some p) w)).purchaseDone x) (s.outputsOn x.service) rfl
    have hcloses := (State.report_closes (s.outputsOn x.service)
      ((s.written (.slot k (some p) w)).purchaseDone x)).setEngine s.ss.engine
    have hrooms (o : OutputId) := State.report_evaluated (s.outputsOn x.service)
      ((s.written (.slot k (some p) w)).purchaseDone x) o
    rw [← heq] at hempty hnext hcloses hrooms
    refine ⟨hempty, hnext, fun k' p' w' x' hc hin' _ _ => ?_, fun hno => ?_⟩
    · cases hc
      rw [hin] at hin'
      cases hin'
      refine ⟨hcloses, fun o hactive hch => hrooms o (State.mem_outputsOn.2 ?_)⟩
      rw [hcloses.alike.ou] at hactive hch
      exact ⟨hactive, hch⟩
    · obtain hno | hno := hno k p w x rfl hin
      · exact absurd hstate hno
      · exact absurd hseq hno
  · rw [heq]
    obtain ⟨hempty, hnext⟩ := State.report_startsNext (y := s.written c) [] rfl
    exact ⟨hempty, hnext, fun k p w x hc hin hstate hseq => absurd hseq (hnot k p w x hc hin hstate),
      fun _ => s.written_report c⟩

end Sys2Proof.Machine

/-! PROOF. The feed port by its modes, the tuner events, and the clock: O39, O40, O42, O43 and O58. -/

namespace Sys2Proof.Machine

/-! ### The feed port (O58) -/

section
variable {h : HeadendFeed} {s : State}

/-- FSTB is active at the level its polarity names (R166). -/
theorem HeadendFeed.fstbActive_iff : h.fstbActive = true ↔ h.fstbHigh = (h.setup.fstb == .activeHigh) := by
  unfold HeadendFeed.fstbActive
  cases h.setup.fstb <;> cases h.fstbHigh <;> simp

/-- An edge or a release changes the level (R166). -/
theorem HeadendFeed.driveFstb_not : h.driveFstb (!h.fstbActive) = { h with fstbHigh := !h.fstbHigh } := by
  unfold HeadendFeed.driveFstb HeadendFeed.fstbActive
  cases h.setup.fstb <;> simp

theorem HeadendFeed.driveFstb_edge (hi : h.fstbActive = false) :
    h.driveFstb true = { h with fstbHigh := !h.fstbHigh } := by
  have hdrive := h.driveFstb_not
  rwa [hi] at hdrive

theorem HeadendFeed.driveFstb_release (ha : h.fstbActive = true) :
    h.driveFstb false = { h with fstbHigh := !h.fstbHigh } := by
  have hdrive := h.driveFstb_not
  rwa [ha] at hdrive

theorem HeadendFeed.markGap_eq : h.markGap =
    { h with buffer := if h.buffer.getLast? = some .gap then h.buffer else h.buffer ++ [.gap] } := by
  unfold HeadendFeed.markGap
  split_ifs <;> rfl

/-- The receiver is ready where it sees FACK active on an open port (R167 to R169). -/
theorem State.ready_iff (hs : s.phase = .running) :
    s.fackHigh = (s.hf.setup.fack == .activeHigh) ↔ s.hf.fackActive = true := by
  unfold State.fackHigh
  rw [hs]
  cases s.hf.setup.fack <;> cases s.hf.fackActive <;> simp

/-- FACK is active with room and FSTB inactive, but in STROBE and where it is held (R167 to R169, R182). -/
theorem HeadendFeed.fackActive_iff : h.fackActive = true ↔
    h.setup.mode ≠ .strobe ∧ h.byteCount < 512 ∧ h.fstbActive = false ∧ h.fackHeld = false := by
  simp [HeadendFeed.fackActive, HeadendFeed.hasRoom, and_assoc]

theorem exec_edge_active {fd : Byte} (ha : s.hf.fstbActive = true) : exec (.fstbActiveEdge fd) s = .next s :=
  congrArg Host.Outcome.next (if_pos ha)

theorem exec_edge_closed {fd : Byte} (hi : s.hf.fstbActive = false) (hs : s.phase ≠ .running) :
    exec (.fstbActiveEdge fd) s =
      .next { s with hf := { s.hf with fstbHigh := !s.hf.fstbHigh, fackHeld := false } } := by
  refine congrArg Host.Outcome.next ?_
  rw [if_neg (by simp [hi]), if_neg hs, HeadendFeed.driveFstb_edge hi]

theorem exec_edge_open {fd : Byte} (hi : s.hf.fstbActive = false) (hs : s.phase = .running) :
    exec (.fstbActiveEdge fd) s =
      .next (s.edge fd s.hf.fackActive { s.hf with fstbHigh := !s.hf.fstbHigh, fackHeld := false }) := by
  refine congrArg Host.Outcome.next ?_
  rw [if_neg (by simp [hi]), if_pos hs, HeadendFeed.driveFstb_edge hi]

theorem exec_release_inactive {fd : Byte} (hi : s.hf.fstbActive = false) : exec (.fstbRelease fd) s = .next s :=
  congrArg Host.Outcome.next (if_neg (by simp [hi]))

theorem exec_release_taken {fd : Byte} (ha : s.hf.fstbActive = true) (hs : s.phase = .running)
    (hm : s.hf.setup.mode = .trailing) (hh : s.hf.handshake = true) :
    exec (.fstbRelease fd) s = .next { s with hf := { s.hf with
      fstbHigh := !s.hf.fstbHigh, fackHeld := false, handshake := false, buffer := s.hf.buffer ++ [.byte fd] } } := by
  refine congrArg Host.Outcome.next ?_
  rw [if_pos ha, if_pos ⟨hs, hm, hh⟩, HeadendFeed.driveFstb_release ha]
  rfl

theorem exec_release_level {fd : Byte} (ha : s.hf.fstbActive = true)
    (hno : ¬(s.phase = .running ∧ s.hf.setup.mode = .trailing ∧ s.hf.handshake = true)) :
    exec (.fstbRelease fd) s = .next { s with hf := { s.hf with
      fstbHigh := !s.hf.fstbHigh, fackHeld := false, handshake := false } } := by
  refine congrArg Host.Outcome.next ?_
  rw [if_pos ha, if_neg hno, HeadendFeed.driveFstb_release ha]

/-- An edge in LEADING or TRAILING that meets FACK inactive is out of turn (R171). -/
theorem State.edge_outOfTurn {fd : Byte} (hm : h.setup.mode ≠ .strobe) :
    s.edge fd false h = s.portFault .outOfTurn h.markGap := by
  unfold State.edge
  cases hmode : h.setup.mode
  · exact absurd hmode hm
  · rfl
  · rfl

end

/-- Settles O58: the port by its mode, its level and FACK as the receiver sees it. -/
theorem feedPortTakesBytesByItsMode : Obligations.FeedPortTakesBytesByItsMode := by
  intro s fd ready active h joined gapped fault edge release
  have hactive : active ↔ s.hf.fstbActive = true := HeadendFeed.fstbActive_iff.symm
  have hinactive : ¬active ↔ s.hf.fstbActive = false := by rw [hactive, Bool.not_eq_true]
  have hgap (g : HeadendFeed) (hg : g.buffer = s.hf.buffer) : g.markGap = { g with buffer := gapped } := by
    rw [HeadendFeed.markGap_eq, hg]
  refine ⟨fun ha => exec_edge_active (hactive.1 ha), fun hi => exec_release_inactive (hinactive.1 hi),
    fun hi hs => exec_edge_closed (hinactive.1 hi) hs, fun hi hs => ?edge, fun ha => ?release, fun hno => ?idle,
    fun hs hh => ?timeout⟩
  case edge =>
    have hopen := exec_edge_open (fd := fd) (hinactive.1 hi) hs
    have hready : ready ↔ s.hf.fackActive = true := State.ready_iff hs
    refine ⟨fun hm => ⟨fun hroom => ?_, fun hfull => ?_⟩, fun hm hr => ?_, fun hm hr => ?_, fun hm hr => ?_,
      fun hm hheld => ?_, fun hm hr => (HeadendFeed.fackActive_iff.1 (hready.1 hr)).1 hm⟩
    · have hyes : HeadendFeed.hasRoom h = true := decide_eq_true hroom
      refine hopen.trans (congrArg Host.Outcome.next ?_)
      simp only [State.edge, hm]
      exact if_pos hyes
    · have hno : ¬(HeadendFeed.hasRoom h = true) := fun hyes => absurd (of_decide_eq_true hyes) (not_lt.2 hfull)
      refine hopen.trans (congrArg Host.Outcome.next ?_)
      simp only [State.edge, hm]
      exact (if_neg hno).trans (congrArg (fun g => s.portFault .overrun g) (hgap h rfl))
    · refine hopen.trans (congrArg Host.Outcome.next ?_)
      simp only [State.edge, hm, hready.1 hr]
      rfl
    · refine hopen.trans (congrArg Host.Outcome.next ?_)
      simp only [State.edge, hm, hready.1 hr]
      rfl
    · have hout : s.hf.fackActive = false := Bool.eq_false_iff.2 fun hyes => hr (hready.2 hyes)
      refine hopen.trans (congrArg Host.Outcome.next ?_)
      rw [hout, State.edge_outOfTurn (by exact hm)]
      exact congrArg (fun g => s.portFault .outOfTurn g) (hgap h rfl)
    · rw [hready, HeadendFeed.fackActive_iff]
      exact ⟨fun hall => hall.2.1, fun hroom => ⟨hm, hroom, hinactive.1 hi, hheld⟩⟩
  case release =>
    refine ⟨fun hs hr => ?_, fun hs hm hh => exec_release_taken (hactive.1 ha) hs hm hh, fun hno =>
      exec_release_level (hactive.1 ha) ?_⟩
    · have hoff := (HeadendFeed.fackActive_iff.1 ((State.ready_iff hs).1 hr)).2.2.1
      rw [hactive.1 ha] at hoff
      cases hoff
    · rintro ⟨hs, hm, hh⟩
      obtain hno | hno | hno := hno
      · exact hno hs
      · exact hno hm
      · rw [hh] at hno; cases hno
  case idle =>
    refine congrArg Host.Outcome.next (if_neg ?_)
    rintro ⟨hs, hh⟩
    obtain hno | hno := hno
    · exact hno hs
    · rw [hh] at hno; cases hno
  case timeout =>
    refine ⟨fun hm => congrArg Host.Outcome.next ((if_pos ⟨hs, hh⟩).trans ?_),
      fun hm => congrArg Host.Outcome.next ((if_pos ⟨hs, hh⟩).trans ?_)⟩
    · simp only [hm]
      rfl
    · simp only [hm]
      exact congrArg (fun g => s.portFault .timeout g) (hgap { s.hf with handshake := false } rfl)

/-! ### A tuner's record replaced (R32) -/

section
variable {s k m : State} {u : TunerId} {x : Tuner}

theorem State.PinsOnly.closes {t : State} (h : k.PinsOnly m) (hc : m.Closes t) : k.Closes t := by
  have e := h.rest
  obtain ⟨rest, passes, kept, others, hwave⟩ := hc
  obtain ⟨v, hv⟩ := h.wave
  obtain ⟨w, hw⟩ := hwave
  rw [hv, List.append_assoc] at hw
  generalize m.pins = pins at e
  subst e
  exact ⟨rest, passes, kept, others, v ++ w, hw⟩

theorem State.finish_storeRests (old : State) (os : List OutputId) (m : State) :
    m.StoreRests (State.finish old os m) := by
  have hss : (State.loadRoutes old m).ss = m.ss := by rw [(State.loadRoutes_pinsOnly old m).rest]
  have h := (State.loadRoutes old m).report_storeRests (State.touched old m ++ os)
  rw [State.StoreRests, hss] at h
  exact h

/-- Outputs on a tuner whose state has changed are touched (R32). -/
theorem State.mem_touched_of_tuner {o : OutputId} {sl : ServiceSlot} (ho : m.ou[o].attachment = .tuner u sl)
    (hu : m.tp.tuners[u].state ≠ s.tp.tuners[u].state) : o ∈ State.touched s m := by
  refine List.mem_filter.2 ⟨State.mem_allOutputs o, ?_⟩
  simp only [ho, Bool.or_eq_true, bne_iff_ne, ne_eq]
  exact .inr hu

theorem State.finish_evaluated {old : State} {os : List OutputId} {o : OutputId} (h : o ∈ State.touched old m ++ os) :
    (State.finish old os m).Evaluated o := State.report_evaluated _ _ o h

/-- An event that changes one tuner's state, closed. -/
theorem State.finish_becomes (hk : k.ou = s.ou)
    (hm : ({ k with tp := { k.tp with tuners := k.tp.tuners.set u x } } : State).PinsOnly m)
    (hx : x.state ≠ s.tp.tuners[u].state) : k.TunerBecomes u x (State.finish s [] m) := by
  have e := hm.rest
  have hou : m.ou = s.ou := by rw [e]; exact hk
  have hss : m.ss = k.ss := by rw [e]
  have htuner : m.tp.tuners[u] = x := by
    rw [e]
    exact Vector.getElem_set_self _
  refine ⟨hm.closes (State.finish_closes s [] m), ?_, fun o ho => ?_⟩
  · have h := State.finish_storeRests s [] m
    rw [State.StoreRests, hss] at h
    exact h
  · obtain ⟨sl, hsl⟩ := ho
    rw [hk, ← hou] at hsl
    exact State.finish_evaluated (List.mem_append_left _ (State.mem_touched_of_tuner hsl (by rwa [htuner])))

theorem State.tunerTo_becomes (hx : x.state ≠ s.tp.tuners[u].state) : s.TunerBecomes u x (s.tunerTo u x) :=
  State.finish_becomes (k := s) rfl (.refl _) hx

theorem State.failTuner_becomes {why : FailReason} (hx : s.tp.tuners[u].state ≠ .failed) :
    (s.latch (.tunerFault u)).TunerBecomes u { x with state := .failed, reason := some why }
      (s.failTuner u x why) :=
  State.finish_becomes (k := s.latch (.tunerFault u)) rfl (.refl _) hx.symm

theorem State.loadDivisor_pinsOnly (u : TunerId) (x : Tuner) (s : State) :
    ({ s with tp := { s.tp with tuners := s.tp.tuners.set u x } } : State).PinsOnly (s.loadDivisor u x) := by
  unfold State.loadDivisor
  dsimp only
  split
  · exact .refl _
  · exact ⟨rfl, _, rfl⟩

theorem State.loadDivisor_wave {n : Nat} (h : x.divisor = some n) :
    (s.loadDivisor u x).pins.wave = s.pins.wave ++ [.divisor u (transferOf n)] := by
  simp only [State.loadDivisor, h]
  rfl

/-- A divisor loaded in an event is transferred in it (R21). -/
theorem State.finish_drives {old : State} {os : List OutputId} {n : Nat} (h : x.divisor = some n) :
    s.Drives (State.finish old os (s.loadDivisor u x)) (.divisor u (transferOf n)) := by
  obtain ⟨-, -, -, -, w, hw⟩ := State.finish_closes old os (s.loadDivisor u x)
  rw [State.loadDivisor_wave h, List.append_assoc] at hw
  exact ⟨_, hw, List.mem_append_left _ (List.mem_singleton.2 rfl)⟩

theorem acquisition_eq (s : State) (c : Nat) : acquisition c s.tp.ifKHz = s.startedOn c := rfl

theorem acquisition_divisor (c ifKHz : Nat) : (acquisition c ifKHz).divisor = some (nominalDivisor c ifKHz) := by
  simp [acquisition, Tuner.divisor]

/-! ### Tuner events by the tuner's state (O39) -/

theorem exec_lockIndication_ignored (h : s.tp.tuners[u].state ≠ .settling) :
    exec (.lockIndication u) s = .next s := by
  refine congrArg Host.Outcome.next ?_
  split_ifs
  · split
    · exact absurd ‹_› h
    all_goals rfl
  · rfl

theorem exec_settleExpiry_ignored (h : s.tp.tuners[u].state ≠ .settling) :
    exec (.settleExpiry u) s = .next s := by
  refine congrArg Host.Outcome.next ?_
  split_ifs
  · split
    · exact absurd ‹_› h
    all_goals rfl
  · rfl

theorem exec_unlockIndication_ignored (hm : s.tp.tuners[u].state ≠ .measuring)
    (hl : s.tp.tuners[u].state ≠ .locked) : exec (.unlockIndication u) s = .next s := by
  refine congrArg Host.Outcome.next ?_
  split_ifs
  · split
    · exact absurd ‹_› hm
    · exact absurd ‹_› hl
    all_goals rfl
  · rfl

theorem exec_gateCompletion_ignored {n : Nat} (h : s.tp.tuners[u].state ≠ .measuring) :
    exec (.gateCompletion u n) s = .next s := by
  refine congrArg Host.Outcome.next ?_
  split_ifs
  · split
    · exact absurd ‹_› h
    all_goals rfl
  · rfl

theorem exec_retryExpiry_ignored (h : s.tp.tuners[u].state ≠ .failed) : exec (.retryExpiry u) s = .next s := by
  refine congrArg Host.Outcome.next ?_
  split_ifs
  · split
    · exact absurd ‹_› h
    · rfl
  · rfl

theorem State.TunerBecomes.tuner {t : State} (h : s.TunerBecomes u x t) : t.tp.tuners[u] = x := by
  rw [h.1.alike.tp]
  exact Vector.getElem_set_self _

theorem exec_lockIndication_settling (hs : s.phase = .running) (h : s.tp.tuners[u].state = .settling) :
    exec (.lockIndication u) s = .next (s.tunerTo u { s.tp.tuners[u] with state := .measuring }) :=
  congrArg Host.Outcome.next ((if_pos hs).trans (by simp only [h]))

theorem exec_settleExpiry_settling (hs : s.phase = .running) (h : s.tp.tuners[u].state = .settling) :
    exec (.settleExpiry u) s = .next (s.failTuner u s.tp.tuners[u] .noLock) :=
  congrArg Host.Outcome.next ((if_pos hs).trans (by simp only [h]))

theorem exec_unlockIndication_measuring (hs : s.phase = .running) (h : s.tp.tuners[u].state = .measuring) :
    exec (.unlockIndication u) s = .next (s.tunerTo u { s.tp.tuners[u] with state := .settling }) :=
  congrArg Host.Outcome.next ((if_pos hs).trans (by simp only [h]))

theorem exec_unlockIndication_locked (hs : s.phase = .running) (h : s.tp.tuners[u].state = .locked) :
    exec (.unlockIndication u) s = .next (State.finish s []
      ((s.setTuner u { s.tp.tuners[u] with state := .settling, corrections := 0 }).latch (.tunerFault u))) :=
  congrArg Host.Outcome.next ((if_pos hs).trans (by simp only [h]))

theorem exec_retryExpiry_failed {c : Nat} (hs : s.phase = .running) (h : s.tp.tuners[u].state = .failed)
    (hc : s.tp.tuners[u].carrier = some c) :
    exec (.retryExpiry u) s = .next (State.finish s [] (s.acquire u c)) :=
  congrArg Host.Outcome.next ((if_pos hs).trans (by simp only [h, hc]))

theorem exec_gateCompletion_measuring {n : Nat} (hs : s.phase = .running) (h : s.tp.tuners[u].state = .measuring) :
    exec (.gateCompletion u n) s = .next (s.completeGate u (gateReport n)) :=
  congrArg Host.Outcome.next ((if_pos hs).trans (by simp only [h]))

/-- Settles O39, event by event, in the state that admits it and in the others. -/
theorem tunerEventsFollowTheState : Obligations.TunerEventsFollowTheState := by
  intro s u hs
  refine ⟨fun hx => ⟨?lock, ?settle⟩, fun hx => ⟨exec_lockIndication_ignored hx, exec_settleExpiry_ignored hx⟩,
    fun hx => ⟨_, exec_unlockIndication_measuring hs hx, State.tunerTo_becomes (by rw [hx]; nofun)⟩,
    fun hx => ⟨_, exec_unlockIndication_locked hs hx, ?locked⟩,
    fun hm hl => exec_unlockIndication_ignored hm hl, fun c hx hc => ?retry, fun hx => exec_retryExpiry_ignored hx⟩
  case lock =>
    have hbecomes := State.tunerTo_becomes (s := s) (u := u) (x := { s.tp.tuners[u] with state := .measuring })
      (by rw [hx]; nofun)
    refine ⟨_, exec_lockIndication_settling hs hx, hbecomes, exec_settleExpiry_ignored ?_⟩
    rw [hbecomes.tuner]
    simp
  case settle =>
    have hbecomes := State.failTuner_becomes (s := s) (u := u) (x := s.tp.tuners[u]) (why := .noLock) (by rw [hx]; nofun)
    refine ⟨_, exec_settleExpiry_settling hs hx, hbecomes, exec_lockIndication_ignored ?_⟩
    rw [hbecomes.tuner]
    simp
  case locked => exact State.finish_becomes (k := s.latch (.tunerFault u)) rfl (.refl _) (by rw [hx]; nofun)
  case retry =>
    refine ⟨_, exec_retryExpiry_failed hs hx hc, ?_, State.finish_drives (acquisition_divisor c s.tp.ifKHz)⟩
    exact State.finish_becomes (k := s) rfl (State.loadDivisor_pinsOnly u _ s) (by rw [hx]; nofun)

end

/-! ### Gate completions (O40) -/

section
variable {s : State} {u : TunerId} {c : IfCount} {f n : Nat} {offset : Int} {corrections : Nat}

theorem State.completeGate_locked
    (h : classify s.tp.ifKHz s.tp.tuners[u].offset s.tp.tuners[u].corrections c = .locked) :
    s.completeGate u c = s.tunerTo u { s.tp.tuners[u] with lastCount := some c, state := .locked } := by
  simp only [State.completeGate, h]

theorem State.completeGate_failed {why : FailReason}
    (h : classify s.tp.ifKHz s.tp.tuners[u].offset s.tp.tuners[u].corrections c = .failed why) :
    s.completeGate u c = s.failTuner u { s.tp.tuners[u] with lastCount := some c } why := by
  simp only [State.completeGate, h]

theorem State.completeGate_corrected {k : Int}
    (h : classify s.tp.ifKHz s.tp.tuners[u].offset s.tp.tuners[u].corrections c = .corrected k) :
    s.completeGate u c = State.finish s [] (s.loadDivisor u { s.tp.tuners[u] with
      lastCount := some c, state := .settling, offset := k, corrections := s.tp.tuners[u].corrections + 1 }) := by
  simp only [State.completeGate, h]

theorem classify_noCarrier (h : n < f) : classify f offset corrections (.count n) = .failed .noCarrier := if_pos h

theorem classify_locked (h : f ≤ n) (hlow : -600 ≤ (n : Int) - 4 * f) (hhigh : (n : Int) - 4 * f ≤ 600) :
    classify f offset corrections (.count n) = .locked :=
  (if_neg (not_lt.2 h)).trans (if_pos ⟨hlow, hhigh⟩)

/-- Off the window, what the corrections made and the offset called for come to (R27). -/
theorem classify_off (h : f ≤ n) (hoff : (n : Int) - 4 * f < -600 ∨ 600 < (n : Int) - 4 * f) :
    classify f offset corrections (.count n) =
      if 3 ≤ corrections then .failed .offFrequency
      else if correctedOffset offset ((n : Int) - 4 * f) = offset then .failed .offFrequency
      else .corrected (correctedOffset offset ((n : Int) - 4 * f)) := by
  refine (if_neg (not_lt.2 h)).trans (if_neg ?_)
  rintro ⟨hlow, hhigh⟩
  simp only [Config.ifWindow] at hlow hhigh
  omega

/-- The steps of a correction are the deviation over 250 to the nearest integer, halves away from zero (R27). -/
theorem correctionSteps_eq {d k : Int} (hlow : -250 ≤ 2 * (d - 250 * k)) (hhigh : 2 * (d - 250 * k) ≤ 250)
    (hdown : 2 * (d - 250 * k) = 250 → d < 0) (hup : 2 * (d - 250 * k) = -250 → 0 < d) :
    correctionSteps d = k := by
  unfold correctionSteps
  split_ifs <;> omega

theorem correctedOffset_eq {d k : Int} (h : correctionSteps d = k) :
    correctedOffset offset d = max (-32) (min 32 (offset - max (-16) (min 16 k))) := by
  rw [← h]
  rfl

theorem Tuner.divisor_of_n0 {x : Tuner} (h : x.n0 = some n) : x.divisor = some ((n : Int) + x.offset).toNat := by
  rw [Tuner.divisor, h]
  rfl

/-- Settles O40: the count's classification, and the event each comes to. -/
theorem gateCompletionJudgesTheCount : Obligations.GateCompletionJudgesTheCount := by
  intro s u n hs
  refine ⟨exec_gateCompletion_ignored, fun hx => ?_⟩
  have hexec := exec_gateCompletion_measuring (n := n) hs hx
  have hfails {c : IfCount} {why : FailReason} (hc : gateReport n = c)
      (h : classify s.tp.ifKHz s.tp.tuners[u].offset s.tp.tuners[u].corrections c = .failed why) :
      ∃ t, exec (.gateCompletion u n) s = .next t ∧ (s.latch (.tunerFault u)).TunerBecomes u
        { s.tp.tuners[u] with lastCount := some c, state := .failed, reason := some why } t :=
    ⟨_, hexec.trans (by rw [hc, State.completeGate_failed h]), State.failTuner_becomes (by rw [hx]; nofun)⟩
  refine ⟨fun hover => hfails (if_pos hover) rfl, fun hfits => ?_⟩
  have hreport : gateReport n = .count n := if_neg (not_lt.2 hfits)
  rw [hreport] at hexec
  refine ⟨fun hlow => hfails hreport (classify_noCarrier hlow), fun hcarrier hlow hhigh => ?locked,
    fun hcarrier hoff => ⟨fun hspent => ?spent, fun hleft k hk1 hk2 hk3 hk4 => ?left⟩⟩
  case locked =>
    refine ⟨_, hexec.trans (by rw [State.completeGate_locked (classify_locked hcarrier hlow hhigh)]), ?_⟩
    exact State.tunerTo_becomes (by rw [hx]; nofun)
  case spent => exact hfails hreport ((classify_off hcarrier hoff).trans (if_pos hspent))
  case left =>
    have hclass := classify_off (corrections := s.tp.tuners[u].corrections) (offset := s.tp.tuners[u].offset)
      hcarrier hoff
    rw [if_neg (not_le.2 hleft), correctedOffset_eq (correctionSteps_eq hk1 hk2 hk3 hk4)] at hclass
    refine ⟨fun hsame => hfails hreport (hclass.trans (if_pos hsame)), fun hnew => ?_⟩
    refine ⟨_, hexec.trans (by rw [State.completeGate_corrected (hclass.trans (if_neg hnew))]), ?_, fun n0 hn0 =>
      State.finish_drives (Tuner.divisor_of_n0 ?_)⟩
    case refine_2 => exact hn0
    exact State.finish_becomes (k := s) rfl (State.loadDivisor_pinsOnly u _ s) (by rw [hx]; nofun)

end

/-! ### The minute event (R62, R82, R111, R127, R139) -/

theorem GuideEvent.not_ended (e : GuideEvent) (n : Nat) :
    (!e.ended (some n)) = decide (n < e.start + e.duration) := by
  rw [GuideEvent.ended, GuideEvent.finish, ← decide_not, decide_eq_decide, not_le]

theorem Purchase.not_removable (p : Purchase) (n : Nat) :
    (!p.removable (some n)) = decide (p.state ≠ .reported ∨ n < p.finish) := by
  by_cases h : p.state = .reported
  · simp [Purchase.removable, Purchase.ended, h, ← decide_not]
  · simp [Purchase.removable, h]

theorem State.afterMinute_pg (m : State) : m.afterMinute.pg = m.pg.purge m.now := by
  refine congrArg Guide.mk (List.filter_congr fun e _ => ?_)
  cases m.now with
  | none => rfl
  | some n => exact (e.not_ended n).symm

theorem State.afterMinute_ep (m : State) :
    m.afterMinute.ep = { m.ep with log := m.ep.log.filter fun p => !p.removable m.now } := by
  have hlog : m.afterMinute.ep.log = m.ep.log.filter fun p => !p.removable m.now := by
    refine List.filter_congr fun p _ => ?_
    cases m.now with
    | none => simp [Purchase.removable, Purchase.ended]
    | some n => exact (p.not_removable n).symm
  calc m.afterMinute.ep = { m.ep with log := m.afterMinute.ep.log } := rfl
    _ = _ := by rw [hlog]

theorem State.afterMinute_pc (m : State) : m.afterMinute.pc = { m.pc with
    record := m.pc.record.minute, passes := m.pc.passes.map fun p => p.bind Pass.minute } := by
  have hpasses : m.afterMinute.pc.passes = m.pc.passes.map fun p => p.bind Pass.minute := by
    refine congrArg (Vector.map · m.pc.passes) (funext fun p => ?_)
    rcases p with - | (⟨service, eventId⟩ | ⟨service, left⟩) <;> rfl
  calc m.afterMinute.pc = { m.pc with record := m.pc.record.minute, passes := m.afterMinute.pc.passes } := rfl
    _ = _ := by rw [hpasses]

/-- The blocks of a state after a minute event, as each block's own rule gives them. -/
theorem State.afterMinute_eq (m : State) : m.afterMinute = { m with
    pg := m.pg.purge m.now
    ep := { m.ep with log := m.ep.log.filter fun p => !p.removable m.now }
    pc := { m.pc with record := m.pc.record.minute, passes := m.pc.passes.map fun p => p.bind Pass.minute } } := by
  rw [← m.afterMinute_pg, ← m.afterMinute_ep, ← m.afterMinute_pc]
  rfl

theorem State.parentalMinute_dirties (m : State) : ({ m with pc := { m.pc with
    record := m.pc.record.minute, passes := m.pc.passes.map fun p => p.bind Pass.minute } } : State).Dirties
      m.parentalMinute :=
  (State.setPinRecord_dirties m.pc.record.minute m).mapPc fun pc =>
    { pc with passes := pc.passes.map fun p => p.bind Pass.minute }

theorem State.Dirties.purchaseMinute {m x : State} (d : m.Dirties x) :
    ({ m with ep := { m.ep with log := m.ep.log.filter fun p => !p.removable m.now } } : State).Dirties
      x.purchaseMinute := by
  have e := d.rest
  generalize x.ss.dirty = l at e
  subst e
  exact Dirties.trans ⟨rfl⟩ (State.markSlots_dirties _ _)

/-- PG, PC and EP act, and mark what they have to have written, before the rooms are decided. -/
theorem State.minuteEvent_cases (m : State) :
    ∃ x, m.afterMinute.Dirties x ∧ m.minuteEvent = x.report x.activeOutputs ∧
      (m.pc.record.minute ≠ m.pc.record → .pin ∈ x.ss.dirty) ∧
      ∀ p ∈ m.ep.log, p ∉ m.afterMinute.ep.log → .slot p.slot ∈ x.ss.dirty := by
  have hmark := (State.parentalMinute_dirties { m with pg := m.pg.purge m.now }).purchaseMinute
  have hep : ({ m with pg := m.pg.purge m.now } : State).parentalMinute.ep = m.ep := by
    simp [State.parentalMinute]
  have hnow : ({ m with pg := m.pg.purge m.now } : State).parentalMinute.now = m.now := by
    simp [State.parentalMinute, State.now]
  refine ⟨({ m with pg := m.pg.purge m.now } : State).parentalMinute.purchaseMinute, ?_, rfl, fun hne => ?_,
    fun p hp hgone => ?_⟩
  · rw [m.afterMinute_eq]
    exact hmark
  · exact State.mem_dirty_markSlots.2 (.inr (State.mem_dirty_setPinRecord
      (m := { m with pg := m.pg.purge m.now }) hne))
  · rw [m.afterMinute_ep] at hgone
    refine State.mem_dirty_markSlots.2 (.inl ⟨p, ?_, rfl⟩)
    rw [hep, hnow, List.mem_filter]
    exact ⟨hp, by simpa [hp] using hgone⟩

/-- A minute event, closed (R62, R159). -/
theorem State.minuteEvent_closes (m : State) :
    m.afterMinute.Closes m.minuteEvent ∧ m.minuteEvent.RoomsDecided ∧
      (m.minuteEvent.pc.record ≠ m.pc.record → m.minuteEvent.awaitsWrite .pin) ∧
      ∀ p ∈ m.ep.log, p ∉ m.minuteEvent.ep.log → m.minuteEvent.awaitsWrite (.slot p.slot) := by
  obtain ⟨x, hmark, heq, hpin, hslots⟩ := m.minuteEvent_cases
  have hcloses : m.afterMinute.Closes m.minuteEvent := by
    rw [heq]
    exact hmark.closes (State.report_closes _ _)
  have hrecord : m.minuteEvent.pc.record = m.pc.record.minute := hcloses.alike.record
  have hep : m.minuteEvent.ep = m.afterMinute.ep := hcloses.alike.ep
  refine ⟨hcloses, ?_, fun hne => ?_, fun p hp hgone => ?_⟩
  · rw [heq]
    exact State.report_roomsDecided fun _ ho => ho
  · rw [hrecord] at hne
    rw [heq]
    exact State.awaitsWrite_report (hpin hne) (by decide)
  · rw [hep] at hgone
    rw [heq]
    exact State.awaitsWrite_report (hslots p hp hgone) (by simp)

/-! ### Second expiries (O42) -/

/-- The counts, their wraps and the day's rollover, within R60's ranges (R61). -/
theorem TimeBase.tick_eq {b : TimeBase} (hlocal : b.localSeconds ≤ 4294967279)
    (hclock : ∀ c ∈ b.clock, c.day ≤ 65535 ∧ c.second ≤ 86399) :
    b.tick = {
      localSeconds := if b.localSeconds = 4294967279 then 0 else b.localSeconds + 1
      clock := b.clock.map fun c =>
        if c.second = 86399 then { day := if c.day = 65535 then 0 else c.day + 1, second := 0 }
        else { c with second := c.second + 1 } } := by
  have hwrap : (b.localSeconds + 1) % Config.localWrap =
      if b.localSeconds = 4294967279 then 0 else b.localSeconds + 1 := by
    split_ifs <;> simp only [Config.localWrap] <;> omega
  rw [TimeBase.tick, hwrap]
  refine congrArg (TimeBase.mk _) ?_
  cases hc : b.clock with
  | none => rfl
  | some c =>
    obtain ⟨hday, hsecond⟩ := hclock c hc
    have hroll : (c.day + 1) % Config.dayWrap = if c.day = 65535 then 0 else c.day + 1 := by
      split_ifs <;> simp only [Config.dayWrap] <;> omega
    rw [Option.map_some, Option.map_some, WallClock.tick, hroll]
    by_cases hlast : c.second = 86399
    · rw [if_neg (by simp [hlast]), if_pos hlast]
    · rw [if_pos (by simp only [Config.daySeconds]; omega), if_neg hlast]

theorem TimeBase.minuteDue_iff (b : TimeBase) : b.minuteDue = true ↔
    match b.clock with
    | none => b.localSeconds % 60 = 0
    | some c => c.second % 60 = 0 := by
  unfold TimeBase.minuteDue
  cases b.clock <;> simp

/-- Settles O42: the time base ticks, and at a full minute the minute event acts. -/
theorem secondsCountAndMinutesAct : Obligations.SecondsCountAndMinutesAct := by
  intro s htime tb minute
  obtain ⟨hlocal, hclock⟩ := htime
  have htick : s.tb.tick = tb := TimeBase.tick_eq hlocal hclock
  have hdue : tb.minuteDue = true ↔ minute := tb.minuteDue_iff
  clear_value tb
  refine ⟨fun hload => ?_, fun hrun => ?_⟩
  · simp only [exec, execSecondExpiry, hload, htick]
  · have hexec : exec .secondExpiry s =
        .next (if tb.minuteDue then ({ s with tb := tb } : State).minuteEvent else { s with tb := tb }) := by
      simp only [exec, execSecondExpiry, hrun, htick]
    refine ⟨fun hno => ?_, fun hyes => ⟨_, ?_, ({ s with tb := tb } : State).minuteEvent_closes⟩⟩
    · rw [hexec, if_neg (hdue.not.2 hno)]
    · rw [hexec, if_pos (hdue.2 hyes)]

/-! ### TIME packets (O43) -/

theorem readTime_short {l : List Byte} (h : l.length < 5) : readTime l = none := by
  match l, h with
  | [], _ => rfl
  | [_], _ => rfl
  | [_, _], _ => rfl
  | [_, _, _], _ => rfl
  | [_, _, _, _], _ => rfl

theorem readTime_bytes {day second : Nat} (hd : day < 65536) (hs : second < 16777216) (more : List Byte) :
    readTime (u16 day ++ u24 second ++ more) = some ⟨day, second % 131072⟩ := by
  have hday := beNat_u16 hd
  have hsecond := beNat_u24 hs
  unfold u16 at hday
  unfold u24 at hsecond
  simp only [u16, u24, List.cons_append, List.nil_append, readTime, hday, hsecond]

/-- The jump between two times, with its sign, is within a minute where its size is (R65). -/
theorem WallClock.jump_le_iff (a b : WallClock) : 60 < a.jump b ↔
    ¬(-60 ≤ ((a.day * 86400 + a.second : Nat) : Int) - (b.day * 86400 + b.second : Nat) ∧
      ((a.day * 86400 + a.second : Nat) : Int) - (b.day * 86400 + b.second : Nat) ≤ 60) := by
  simp only [WallClock.jump, WallClock.seconds, Config.daySeconds]
  omega

/-- Settles O43: the packet is read, and the time taken with its minute event and its notice. -/
theorem timePacketsSetTheClock : Obligations.TimePacketsSetTheClock := by
  intro s body h
  refine ⟨fun hshort => ?_, fun day second more hb hd hs => ?_⟩
  · rw [h.taken (c := .time) rfl, readTime_short hshort]
  · intro c set runs
    have hread : readTime body = some c := hb ▸ readTime_bytes hd hs more
    have hexec : exec .time s =
        .next (if c.second < 86400 then s.packetGone.takeTime c else s.packetGone) := by
      rw [h.taken (c := .time) rfl, hread]
    refine ⟨fun hlate => by rw [hexec, if_neg (by omega)], fun hday => ?_⟩
    rw [if_pos (by omega)] at hexec
    have hruns {m : State} (hm : s.packetGone.takeTime c = m.minuteEvent) (hrec : m.pc = s.pc) (hep : m.ep = s.ep) :
        runs m := by
      obtain ⟨hcloses, hrooms, hpin, hslots⟩ := m.minuteEvent_closes
      rw [hrec] at hpin
      rw [hep] at hslots
      exact ⟨_, by rw [hexec, hm], hcloses, hrooms, hpin, hslots⟩
    refine ⟨fun hnone => hruns ?_ rfl rfl, fun old hold => ⟨fun hsame => ?_, fun hnew => ⟨fun hlow hhigh =>
      hruns ?_ rfl rfl, fun hjump => hruns ?_ rfl rfl⟩⟩⟩
    · simp only [State.takeTime, State.packetGone_tb, hnone]; rfl
    · rw [hexec]
      simp only [State.takeTime, State.packetGone_tb, hold, if_pos (show c.now = old.now from hsame)]
      rfl
    · have hno : ¬60 < c.jump old := fun hjump => (c.jump_le_iff old).1 hjump ⟨hlow, hhigh⟩
      simp only [State.takeTime, State.packetGone_tb, hold, if_neg (show ¬c.now = old.now from hnew), if_neg hno]
      rfl
    · have hyes : 60 < c.jump old := (c.jump_le_iff old).2 (by omega)
      simp only [State.takeTime, State.packetGone_tb, hold, if_neg (show ¬c.now = old.now from hnew), if_pos hyes]
      rfl

end Sys2Proof.Machine

/-! PROOF. Packet bodies and what they are taken to: the channel map's staging and the programme guide, O44, O45,
O47 and O48. -/

namespace Sys2Proof.Machine

/-! ### Bodies read back, and not when cut short (O44) -/

/-- A list of items cut short is not read. -/
theorem readMany_take {α β : Type} {item : List Byte → Option (α × List Byte)} {encode : β → List Byte}
    {decode : β → α} (l : List β) (h : ∀ b ∈ l, ∀ r, item (encode b ++ r) = some (decode b, r))
    (hcut : ∀ b ∈ l, ∀ k < (encode b).length, item ((encode b).take k) = none) {k : Nat}
    (hk : k < (l.map encode).flatten.length) :
    readMany item l.length ((l.map encode).flatten.take k) = none := by
  induction l generalizing k with
  | nil => exact absurd hk (Nat.not_lt_zero k)
  | cons b l ih =>
    obtain ⟨hb, hl⟩ := List.forall_mem_cons.1 h
    obtain ⟨hbcut, hlcut⟩ := List.forall_mem_cons.1 hcut
    rw [List.map_cons, List.flatten_cons] at hk ⊢
    rw [List.length_append] at hk
    by_cases hfirst : k < (encode b).length
    · rw [List.take_append_of_le_length hfirst.le]
      simp only [List.length_cons, readMany, hbcut k hfirst]
    · have hrest := ih hl hlcut (k := k - (encode b).length) (by omega)
      rw [List.take_append, List.take_of_length_le (not_lt.1 hfirst)]
      simp only [List.length_cons, readMany, hb, hrest, Option.map_none]

theorem readEntry_short {l : List Byte} (h : l.length < 9) : readEntry l = none := by
  unfold readEntry
  split
  · simp only [List.length_cons] at h; omega
  · rfl

theorem readEvent_short {l : List Byte} (h : l.length < 13) : readEvent l = none := by
  unfold readEvent
  split
  · simp only [List.length_cons] at h; omega
  · rfl

/-- One byte of an entry carries class and scrambling (section 9.3). -/
theorem attribute_bits {c : Nat} (h : c < 4) (b : Bool) :
    (toByte (c + if b then 128 else 0)).getLsbD 7 = b ∧ (toByte (c + if b then 128 else 0)).toNat % 4 = c := by
  interval_cases c <;> cases b <;> decide

theorem toByte_toNat {n : Nat} (h : n < 256) : (toByte n).toNat = n := toNat_ofNat_byte h

theorem readEntry_wireEntry {x : RawEntry} (h : x.Fits) (r : List Byte) :
    readEntry (wireEntry x ++ r) = some (x, r) := by
  obtain ⟨hchannel, hcarrier, hslot, hclass, htier, hlabel⟩ := h
  have hch := beNat_u16 hchannel
  have hca := beNat_u24 hcarrier
  obtain ⟨hscr, hcode⟩ := attribute_bits hclass x.scrambled
  have hcut : cut (BitVec.ofNat 8 x.label.length).toNat (x.label ++ r) = some (x.label, r) :=
    cut_eq_some.2 ⟨(toNat_ofNat_byte hlabel).symm, rfl⟩
  unfold u16 at hch
  unfold u24 at hca
  simp only [wireEntry, u16, u24, u8, List.cons_append, List.nil_append, readEntry, hcut, hch, hca, hscr, hcode,
    toByte_toNat hslot, toByte_toNat htier, Option.map_some]

theorem readEvent_wireEvent {x : RawEvent} (h : x.Fits) (r : List Byte) :
    readEvent (wireEvent x ++ r) = some (x, r) := by
  obtain ⟨hid, hday, hminute, hduration, hrating, hprice, hpreview, htitle⟩ := h
  have hi := beNat_u16 hid
  have hd := beNat_u16 hday
  have hm := beNat_u16 hminute
  have hu := beNat_u16 hduration
  have hcut : cut (BitVec.ofNat 8 x.title.length).toNat (x.title ++ r) = some (x.title, r) :=
    cut_eq_some.2 ⟨(toNat_ofNat_byte htitle).symm, rfl⟩
  unfold u16 at hi hd hm hu
  simp only [wireEvent, u16, u8, List.cons_append, List.nil_append, readEvent, hcut, hi, hd, hm, hu,
    toByte_toNat hrating, toByte_toNat hprice, toByte_toNat hpreview, Option.map_some]

theorem wireEntry_length (x : RawEntry) : (wireEntry x).length = 9 + x.label.length := by
  simp only [wireEntry, u16, u24, u8, List.length_append, List.length_cons, List.length_nil]
  omega

theorem wireEvent_length (x : RawEvent) : (wireEvent x).length = 13 + x.title.length := by
  simp only [wireEvent, u16, u8, List.length_append, List.length_cons, List.length_nil]
  omega

/-- An entry cut short is not read, in its fields or in its label. -/
theorem readEntry_take {x : RawEntry} (h : x.Fits) {k : Nat} (hk : k < (wireEntry x).length) :
    readEntry ((wireEntry x).take k) = none := by
  obtain ⟨-, -, -, -, -, hlabel⟩ := h
  rw [wireEntry_length] at hk
  by_cases hshort : k < 9
  · refine readEntry_short ?_
    rw [List.length_take]
    omega
  · obtain ⟨j, rfl⟩ : ∃ j, k = 9 + j := ⟨k - 9, by omega⟩
    have hcut : cut (BitVec.ofNat 8 x.label.length).toNat (x.label.take j) = none := by
      refine cut_eq_none ?_
      rw [toNat_ofNat_byte hlabel, List.length_take]
      omega
    rw [Nat.add_comm]
    simp only [wireEntry, u16, u24, u8, List.cons_append, List.nil_append, List.take_succ_cons, readEntry, hcut,
      Option.map_none]

theorem readEvent_take {x : RawEvent} (h : x.Fits) {k : Nat} (hk : k < (wireEvent x).length) :
    readEvent ((wireEvent x).take k) = none := by
  obtain ⟨-, -, -, -, -, -, -, htitle⟩ := h
  rw [wireEvent_length] at hk
  by_cases hshort : k < 13
  · refine readEvent_short ?_
    rw [List.length_take]
    omega
  · obtain ⟨j, rfl⟩ : ∃ j, k = 13 + j := ⟨k - 13, by omega⟩
    have hcut : cut (BitVec.ofNat 8 x.title.length).toNat (x.title.take j) = none := by
      refine cut_eq_none ?_
      rw [toNat_ofNat_byte htitle, List.length_take]
      omega
    rw [Nat.add_comm]
    simp only [wireEvent, u16, u8, List.cons_append, List.nil_append, List.take_succ_cons, readEvent, hcut,
      Option.map_none]

theorem readSegment_short {l : List Byte} (h : l.length < 4) : readSegment l = none := by
  unfold readSegment
  split
  · simp only [List.length_cons] at h; omega
  · rfl

theorem readGuide_short {l : List Byte} (h : l.length < 3) : readGuide l = none := by
  unfold readGuide
  split
  · simp only [List.length_cons] at h; omega
  · rfl

/-- A segment's head, within R4's limits, leaves the entries to be read. -/
theorem readSegment_head {v n c k : Nat} (hv : v < 256) (hlow : 1 ≤ c) (hc : c ≤ 16) (hn : n < c) (hk : k ≤ 16)
    (l : List Byte) :
    readSegment (BitVec.ofNat 8 v :: BitVec.ofNat 8 n :: BitVec.ofNat 8 c :: BitVec.ofNat 8 k :: l) =
      (readMany readEntry k l).map fun x => ⟨v, n, c, x.1⟩ := by
  have hv' := toNat_ofNat_byte hv
  have hc' := toNat_ofNat_byte (show c < 256 by omega)
  have hn' := toNat_ofNat_byte (show n < 256 by omega)
  have hk' := toNat_ofNat_byte (show k < 256 by omega)
  simp only [readSegment, hv', hc', hn', hk']
  rw [if_neg (by omega)]

theorem readGuide_head {service k : Nat} (hlow : 1 ≤ service) (hhigh : service ≤ 999) (hk : k ≤ 16)
    (l : List Byte) :
    readGuide (toByte (service / 256) :: toByte service :: BitVec.ofNat 8 k :: l) =
      (readMany readEvent k l).map fun x => ⟨service, x.1⟩ := by
  have hs := beNat_u16 (show service < 65536 by omega)
  have hk' := toNat_ofNat_byte (show k < 256 by omega)
  unfold u16 at hs
  simp only [readGuide, hs, hk']
  rw [if_neg (by omega)]

/-- Settles O44, by the heads and by the lists that follow them. -/
theorem packetBodiesReadAsLaidOut : Obligations.PacketBodiesReadAsLaidOut := by
  refine ⟨fun v n c es more hv hlow hc hn hes hfit => ?_, fun service es more hlow hhigh hes hfit => ?_⟩
  · have hread := readMany_map (item := readEntry) (decode := id) es
      (fun x hx r => readEntry_wireEntry (hfit x hx) r) more
    rw [List.map_id] at hread
    refine ⟨(readSegment_head hv hlow hc hn hes _).trans (congrArg (Option.map _) hread), fun k hk => ?_⟩
    by_cases hshort : k < 4
    · refine readSegment_short ?_
      rw [List.length_take]
      omega
    · obtain ⟨j, rfl⟩ : ∃ j, k = j + 4 := ⟨k - 4, by omega⟩
      have hcut := readMany_take (item := readEntry) (decode := id) es
        (fun x hx r => readEntry_wireEntry (hfit x hx) r) (fun x hx j hj => readEntry_take (hfit x hx) hj) (k := j)
        (by simpa using hk)
      exact (readSegment_head hv hlow hc hn hes _).trans (congrArg (Option.map _) hcut)
  · have hread := readMany_map (item := readEvent) (decode := id) es
      (fun x hx r => readEvent_wireEvent (hfit x hx) r) more
    rw [List.map_id] at hread
    refine ⟨(readGuide_head hlow hhigh hes _).trans (congrArg (Option.map _) hread), fun k hk => ?_⟩
    by_cases hshort : k < 3
    · refine readGuide_short ?_
      rw [List.length_take]
      omega
    · obtain ⟨j, rfl⟩ : ∃ j, k = j + 3 := ⟨k - 3, by omega⟩
      have hcut := readMany_take (item := readEvent) (decode := id) es
        (fun x hx r => readEvent_wireEvent (hfit x hx) r) (fun x hx j hj => readEvent_take (hfit x hx) hj) (k := j)
        (by simpa [u16] using hk)
      exact (readGuide_head hlow hhigh hes _).trans (congrArg (Option.map _) hcut)

/-! ### Intake (O45, R5) -/

theorem accessOf_eq_some {code tier : Nat} {a : AccessClass} : accessOf code tier = some a ↔
    (code = 0 ∧ a = .free) ∨ (code = 1 ∧ ∃ k : TierId, k.val = tier ∧ a = .tier k) ∨ (code = 2 ∧ a = .pay) := by
  unfold accessOf
  split
  · simp [eq_comm]
  · split_ifs with h
    · simp only [Option.some.injEq, eq_comm (a := AccessClass.tier _)]
      refine ⟨fun e => .inr (.inl ⟨trivial, _, rfl, e⟩), ?_⟩
      rintro (⟨h0, -⟩ | ⟨-, k, rfl, rfl⟩ | ⟨h2, -⟩)
      · cases h0
      · rfl
      · cases h2
    · refine ⟨fun e => (by cases e), ?_⟩
      rintro (⟨h0, -⟩ | ⟨-, k, rfl, -⟩ | ⟨h2, -⟩)
      · cases h0
      · exact absurd k.isLt h
      · cases h2
  · simp [eq_comm]
  · rename_i h0 h1 h2
    refine ⟨fun e => (by cases e), ?_⟩
    rintro (⟨h, -⟩ | ⟨h, -⟩ | ⟨h, -⟩)
    · exact absurd h h0
    · exact absurd h h1
    · exact absurd h h2

/-- The checks of an entry at intake, and what it is taken as (R5). -/
theorem RawEntry.intake_eq_some {x : RawEntry} {e : MapEntry} : x.intake = some e ↔
    ((1 ≤ x.channel ∧ x.channel ≤ 999) ∧ (48000 ≤ x.carrier ∧ x.carrier ≤ 1002000) ∧ x.slot < 4) ∧
      e.channel = x.channel ∧ e.carrier = x.carrier ∧ e.slot.val = x.slot ∧ e.scrambled = x.scrambled ∧
      e.label = storedLabel x.label ∧ accessOf x.classCode x.tier = some e.access := by
  unfold RawEntry.intake
  obtain ⟨ch, ca, sl, sc, ac, la⟩ := e
  split_ifs with h
  · rw [Option.map_eq_some_iff]
    constructor
    · rintro ⟨a, ha, heq⟩
      cases heq
      exact ⟨h, rfl, rfl, rfl, rfl, rfl, ha⟩
    · rintro ⟨-, hch, hca, hsl, hsc, hla, hac⟩
      obtain rfl : sl = ⟨x.slot, h.2.2⟩ := Fin.ext hsl
      dsimp only at hch hca hsc hla
      subst hch hca hsc hla
      exact ⟨_, hac, rfl⟩
  · exact ⟨fun e => (by cases e), fun hall => absurd hall.1 h⟩

/-! ### Lookups in a collection (R9) -/

theorem find?_placeStaged (x : StagedEntry) (ch : Nat) (l : List StagedEntry) :
    (placeStaged x l).find? (fun y => y.entry.channel == ch) =
      if x.entry.channel = ch then some x else l.find? fun y => y.entry.channel == ch := by
  induction l with
  | nil => by_cases h : x.entry.channel = ch <;> simp [placeStaged, h]
  | cons y ys ih =>
    unfold placeStaged
    by_cases h : x.entry.channel = ch
    · have hx : (x.entry.channel == ch) = true := beq_iff_eq.2 h
      rw [if_pos h] at ih ⊢
      by_cases hlt : x.entry.channel < y.entry.channel
      · rw [if_pos hlt, List.find?_cons, hx]
      · by_cases heq : x.entry.channel = y.entry.channel
        · rw [if_neg hlt, if_pos heq, List.find?_cons, hx]
        · have hy : (y.entry.channel == ch) = false := beq_false_of_ne fun e => heq (h.trans e.symm)
          rw [if_neg hlt, if_neg heq, List.find?_cons, hy, ih]
    · have hx : (x.entry.channel == ch) = false := beq_false_of_ne h
      rw [if_neg h] at ih ⊢
      split_ifs with hlt heq
      · rw [List.find?_cons, hx]
      · have hy : (y.entry.channel == ch) = false := heq ▸ hx
        rw [List.find?_cons, hx, List.find?_cons, hy]
      · rw [List.find?_cons, ih, List.find?_cons]

/-- Of a segment's entries of one channel the last stands (R9 step 3). -/
theorem find?_placeEntries (number ch : Nat) (es : List MapEntry) (held : List StagedEntry) :
    (placeEntries number es held).find? (fun y => y.entry.channel == ch) =
      ((es.reverse.find? fun e => e.channel == ch).map fun e => ⟨e, number⟩).or
        (held.find? fun y => y.entry.channel == ch) := by
  induction es generalizing held with
  | nil => rfl
  | cons e es ih =>
    rw [placeEntries_cons, ih, find?_placeStaged, List.reverse_cons, List.find?_append]
    cases es.reverse.find? fun e => e.channel == ch with
    | some x => rfl
    | none =>
      by_cases h : e.channel = ch
      · simp [h]
      · simp [h]

/-- Under the staging law an earlier copy of the segment is what the collection gives up (R9 step 1). -/
theorem Staging.keptFor_eq {st : Staging} (h : st.Law) (number : Nat) :
    st.keptFor number = st.entries.filter fun x => x.segment ≠ number := by
  unfold Staging.keptFor
  split_ifs with hr
  · rfl
  · refine (List.filter_eq_self.2 fun x hx => ?_).symm
    have hmem := (Staging.mem_keptFor h (number := number) (x := x)).1
    rw [Staging.keptFor, if_neg hr] at hmem
    simpa using (hmem hx).2

theorem State.collected_eq (s : State) (g : RawSegment) :
    s.collected g = ((collectionFor s.cm.staging g.version g.count).received,
      (collectionFor s.cm.staging g.version g.count).entries) := by
  unfold State.collected collectionFor
  cases s.cm.staging with
  | none => rfl
  | some st =>
    dsimp only
    split_ifs <;> rfl

/-- What a channel is in the collection once the segment has been placed (R9). -/
theorem State.find?_staged {s : State} (h : s.MapLaw) {g : RawSegment} (hver : g.version < 256)
    (hcount : g.count ≤ 16) (ch : Nat) :
    ((g.staged s.cm.staging).entries.find? fun y => y.entry.channel == ch) = g.found (s.collected g).2 ch := by
  have hlaw := collectionFor_lawful h.2.1 hver hcount
  change (placeEntries g.number (g.entries.filterMap RawEntry.intake)
    ((collectionFor s.cm.staging g.version g.count).keptFor g.number)).find? _ = _
  rw [find?_placeEntries, Staging.keptFor_eq hlaw, List.find?_filter, State.collected_eq]
  unfold RawSegment.found
  cases (g.entries.filterMap RawEntry.intake).reverse.find? fun e => e.channel == ch with
  | some e => rfl
  | none =>
    refine congrArg (fun p => List.find? p _) (funext fun x => ?_)
    rw [Bool.eq_iff_iff]
    simp [and_comm]

theorem Staging.complete_iff (st : Staging) : st.complete = true ↔ ∀ n < st.count, n ∈ st.received := by
  simp [Staging.complete]

/-- A segment completes its version with the numbers collected before it (R10). -/
theorem State.staged_complete_iff (s : State) (g : RawSegment) :
    (g.staged s.cm.staging).complete = true ↔ ∀ n < g.count, n = g.number ∨ n ∈ (s.collected g).1 := by
  have hcount : (g.staged s.cm.staging).count = g.count := (collectionFor_fields _ _ _).2
  rw [Staging.complete_iff, hcount, State.collected_eq]
  exact forall₂_congr fun n _ => mem_joinReceived

theorem State.Hands.map {s : State} {body : List Byte} {g : RawSegment} (h : s.Hands 0x20 body)
    (hg : readSegment body = some g) : exec .map s = .next (s.packetGone.takeSegment g) := by
  rw [h.taken (c := .map) rfl, hg]

/-- Settles O45, by the collection that the segment is placed into. -/
theorem mapSegmentsAreStaged : Obligations.MapSegmentsAreStaged := by
  refine ⟨fun x e => ?_, fun s body h hlaw => ⟨fun hnone => ?_, fun g hg =>
    ⟨fun hknown => ?_, fun hnew hmissing => ?_⟩⟩⟩
  · rw [RawEntry.intake_eq_some, accessOf_eq_some]
    simp only [and_assoc, storedLabel]
  · rw [h.taken (c := .map) rfl, hnone]
  · rw [h.map hg, State.takeSegment, if_pos (show s.packetGone.cm.committed.version = some g.version from hknown)]
  · obtain ⟨n, hn, hne, hout⟩ := hmissing
    have hopen : ¬((g.staged s.cm.staging).complete = true) := fun hall =>
      ((s.staged_complete_iff g).1 hall n hn).elim hne hout
    obtain ⟨hver, hcount, -⟩ := readSegment_fits hg
    refine ⟨g.staged s.cm.staging, ?_, (collectionFor_fields _ _ _).1, (collectionFor_fields _ _ _).2, fun n => ?_,
      State.find?_staged hlaw hver hcount⟩
    · rw [h.map hg, State.takeSegment, if_neg (show ¬s.packetGone.cm.committed.version = some g.version from hnew)]
      exact congrArg Host.Outcome.next (if_neg hopen)
    · rw [State.collected_eq]
      exact mem_joinReceived

/-! ### GUIDE packets (O47) -/

theorem RawEvent.intake_eq_some {service : Nat} {x : RawEvent} {e : GuideEvent} : x.intake service = some e ↔
    1 ≤ x.eventId ∧ x.minute ≤ 1439 ∧ 1 ≤ x.duration ∧ x.duration ≤ 1440 ∧
      e = { service := service, eventId := x.eventId, start := x.day * 1440 + x.minute,
            duration := x.duration, rating := min x.rating 6, flags := x.flags.setWidth 4, price := x.price,
            preview := min x.preview 15, title := x.title.take 48 } := by
  unfold RawEvent.intake
  split_ifs with h
  · exact ⟨fun heq => (by cases heq), fun ⟨hid, hm, hd, hd', _⟩ => (by omega)⟩
  · rw [Option.some.injEq]
    exact ⟨fun heq => ⟨by omega, by omega, by omega, by omega, heq.symm⟩, fun ⟨_, _, _, _, heq⟩ => heq.symm⟩

/-- What is on air on an output is read from the outputs, the guide and the time. -/
theorem State.Alike.currentOf {s t : State} (h : s.Alike t) (o : OutputId) : t.currentOf o = s.currentOf o := by
  simp only [State.currentOf, State.current, State.now, h.ou, h.pg, h.tb]

theorem State.mem_programmeChanged {s t : State} {o : OutputId} : o ∈ State.programmeChanged s t ↔
    t.ou[o].mode = .active ∧ (t.currentOf o).map GuideEvent.untitled ≠ (s.currentOf o).map GuideEvent.untitled := by
  rw [State.programmeChanged, List.mem_filter, State.mem_activeOutputs, bne_iff_ne]

/-- Settles O47: the packet's programmes placed, and the event closed on the rooms they bear on. -/
theorem guidePacketsPlaceTheirProgrammes : Obligations.GuidePacketsPlaceTheirProgrammes := by
  refine ⟨fun service x e => RawEvent.intake_eq_some, fun s body h => ⟨fun hnone => ?_, fun g hg => ?_⟩⟩
  · rw [h.taken (c := .guide) rfl, hnone]
  · intro placed m
    have hexec : exec .guide s = .next (s.packetGone.takeGuide g) := by
      rw [h.taken (c := .guide) rfl, hg]
    have htake : s.packetGone.takeGuide g = (if placed.2 then m.latch .guideFull else m).report
        (State.programmeChanged s.packetGone (if placed.2 then m.latch .guideFull else m)) := rfl
    have hss : (if placed.2 then m.latch .guideFull else m).ss = m.ss := by split_ifs <;> rfl
    rw [htake] at hexec
    generalize (if placed.2 then m.latch .guideFull else m) = x at hexec hss ⊢
    refine ⟨_, hexec, State.report_closes _ _, ?_, fun o hactive hchanged => State.report_evaluated _ _ o
      (State.mem_programmeChanged.2 ⟨?_, ?_⟩)⟩
    · have hrests := State.report_storeRests (State.programmeChanged s.packetGone x) x
      rwa [State.StoreRests, hss] at hrests
    · rwa [(State.report_closes _ x).alike.ou] at hactive
    · rw [(State.report_closes _ x).alike.currentOf o] at hchanged
      exact hchanged

/-! ### The order in which programmes leave (R78) -/

/-- No two records of one service start together, which R70 gives of every table. -/
abbrev StartsApart (l : List GuideEvent) : Prop := l.Pairwise fun a b => ¬(a.service = b.service ∧ a.start = b.start)

theorem StartsApart.nodup {l : List GuideEvent} (h : StartsApart l) : l.Nodup :=
  List.Pairwise.imp (fun hne heq => hne (by rw [heq]; exact ⟨rfl, rfl⟩)) h

theorem StartsApart.ne {l : List GuideEvent} (h : StartsApart l) {a b : GuideEvent} (ha : a ∈ l) (hb : b ∈ l)
    (hne : a ≠ b) : ¬(a.service = b.service ∧ a.start = b.start) :=
  have : Std.Symm fun a b : GuideEvent => ¬(a.service = b.service ∧ a.start = b.start) :=
    ⟨fun _ _ h e => h ⟨e.1.symm, e.2.symm⟩⟩
  List.Pairwise.forall h ha hb hne

theorem GuideEvent.laterVictim_iff (a b : GuideEvent) : a.laterVictim b = true ↔ a.LeavesBefore b := by
  simp [GuideEvent.laterVictim]

theorem GuideEvent.LeavesBefore.asymm {a b : GuideEvent} (h : a.LeavesBefore b) : ¬b.LeavesBefore a := by
  unfold GuideEvent.LeavesBefore at *
  omega

/-- One step of the search for the record that leaves first. -/
def laterOf (best : Option GuideEvent) (e : GuideEvent) : Option GuideEvent :=
  match best with
  | none => some e
  | some b => if e.laterVictim b then some e else some b

theorem foldl_laterOf (l : List GuideEvent) (b : GuideEvent) :
    ∃ v, l.foldl laterOf (some b) = some v ∧ v ∈ b :: l ∧ ∀ e ∈ b :: l, ¬e.LeavesBefore v := by
  induction l generalizing b with
  | nil =>
    refine ⟨b, rfl, List.mem_singleton.2 rfl, fun e he => ?_⟩
    rw [List.mem_singleton.1 he]
    exact fun h => h.asymm h
  | cons e l ih =>
    by_cases h : e.LeavesBefore b
    · obtain ⟨v, hv, hmem, hlast⟩ := ih e
      refine ⟨v, ?_, List.mem_cons_of_mem _ hmem, List.forall_mem_cons.2 ⟨fun hb => ?_, hlast⟩⟩
      · rw [List.foldl_cons, laterOf, if_pos ((e.laterVictim_iff b).2 h)]
        exact hv
      · have he := hlast e List.mem_cons_self
        unfold GuideEvent.LeavesBefore at *
        omega
    · obtain ⟨v, hv, hmem, hlast⟩ := ih b
      obtain ⟨hb, hl⟩ := List.forall_mem_cons.1 hlast
      refine ⟨v, ?_, ?_, List.forall_mem_cons.2 ⟨hb, List.forall_mem_cons.2 ⟨fun he => ?_, hl⟩⟩⟩
      · rw [List.foldl_cons, laterOf, if_neg ((e.laterVictim_iff b).not.2 h)]
        exact hv
      · obtain rfl | hmem := List.mem_cons.1 hmem
        · exact List.mem_cons_self
        · exact List.mem_cons_of_mem _ (List.mem_cons_of_mem _ hmem)
      · unfold GuideEvent.LeavesBefore at *
        omega

theorem Guide.victim_eq (g : Guide) : g.victim = g.events.foldl laterOf none := rfl

theorem Guide.victim_eq_none {g : Guide} (h : g.victim = none) : g.events = [] := by
  rw [Guide.victim_eq] at h
  cases hl : g.events with
  | nil => rfl
  | cons e l =>
    obtain ⟨v, hv, -⟩ := foldl_laterOf l e
    rw [hl, List.foldl_cons] at h
    exact absurd (hv.symm.trans h) (by simp)

/-- The record chosen to leave is the one that leaves before all others (R78 step 2). -/
theorem Guide.victim_eq_some {g : Guide} {v : GuideEvent} (hg : StartsApart g.events) (h : g.victim = some v) :
    v ∈ g.events ∧ ∀ e ∈ g.events, e ≠ v → v.LeavesBefore e := by
  rw [Guide.victim_eq] at h
  cases hl : g.events with
  | nil => rw [hl] at h; cases h
  | cons b l =>
    rw [hl, List.foldl_cons] at h
    obtain ⟨v', hv, hmem, hlast⟩ := foldl_laterOf l b
    obtain rfl : v' = v := Option.some.inj (hv.symm.trans h)
    refine ⟨hmem, fun e he hne => ?_⟩
    have hno := hlast e he
    have hapart := (hl ▸ hg : StartsApart (b :: l)).ne he hmem hne
    unfold GuideEvent.LeavesBefore at *
    omega

/-! ### Room (R78) -/

theorem Guide.hasRoom_iff (g : Guide) (x : GuideEvent) :
    g.hasRoom x = true ↔ GuideRoom g.events x.title.length := by
  rw [Guide.hasRoom, Guide.poolUse, Bool.and_eq_true, decide_eq_true_eq, decide_eq_true_eq]

theorem GuideRoom.perm {l l' : List GuideEvent} {n : Nat} (h : GuideRoom l n) (hp : l.Perm l') : GuideRoom l' n := by
  obtain ⟨hlen, hpool⟩ := h
  rw [hp.length_eq] at hlen
  rw [(hp.map _).sum_eq] at hpool
  exact ⟨hlen, hpool⟩

theorem mem_insertEvent {x e : GuideEvent} {l : List GuideEvent} : e ∈ insertEvent x l ↔ e = x ∨ e ∈ l := by
  induction l with
  | nil => simp [insertEvent]
  | cons y ys ih =>
    unfold insertEvent
    split_ifs
    · simp
    · rw [List.mem_cons, ih, List.mem_cons, or_left_comm]

theorem length_insertEvent (x : GuideEvent) (l : List GuideEvent) : (insertEvent x l).length = l.length + 1 := by
  induction l with
  | nil => rfl
  | cons y ys ih =>
    unfold insertEvent
    split_ifs
    · rfl
    · rw [List.length_cons, ih, List.length_cons]

/-! ### Evictions (R78 steps 2 and 3) -/

/-- What the evictions from `held` for a programme come to: which records are kept, whether there is room, and
whether GUIDE_FULL is called for. -/
structure Evicted (held : List GuideEvent) (x : GuideEvent) (full : Bool) (r : Room) : Prop where
  kept : r.guide.events.Sublist held
  gone : ∀ v ∈ held, v ∉ r.guide.events → x.start < v.start ∧ ∀ e ∈ r.guide.events, v.LeavesBefore e
  needed : ∀ v ∈ held, v ∉ r.guide.events →
    (∀ w ∈ held, w ∉ r.guide.events → w ≠ v → w.LeavesBefore v) → ¬GuideRoom (v :: r.guide.events) x.title.length
  stored : r.stored = true ↔ GuideRoom r.guide.events x.title.length
  fullRoom : r.stored = true → (r.full = true ↔ full = true ∨ r.guide.events.length < held.length)
  fullDropped : r.stored = false → (r.full = true ↔ full = true ∨ held ≠ []) ∧ ∀ e ∈ r.guide.events, e.start ≤ x.start

theorem Evicted.none_gone {g : Guide} {x : GuideEvent} {full full' stored : Bool}
    (hstored : stored = true ↔ GuideRoom g.events x.title.length) (hroom : stored = true → full' = full)
    (hdropped : stored = false → (full' = true ↔ full = true ∨ g.events ≠ []) ∧ ∀ e ∈ g.events, e.start ≤ x.start) :
    Evicted g.events x full ⟨g, stored, full'⟩ where
  kept := .refl _
  gone := fun v hv hno => absurd hv hno
  needed := fun v hv hno => absurd hv hno
  stored := hstored
  fullRoom := fun h => by simp [hroom h]
  fullDropped := hdropped

/-- A first eviction, and those that follow it. -/
theorem Evicted.cons {held : List GuideEvent} {x v : GuideEvent} {full : Bool} {r : Room} (hapart : StartsApart held)
    (hv : v ∈ held) (hfirst : ∀ e ∈ held, e ≠ v → v.LeavesBefore e) (hlate : x.start < v.start)
    (hno : ¬GuideRoom held x.title.length) (h : Evicted (held.erase v) x true r) : Evicted held x full r := by
  have hnodup := hapart.nodup
  have hgone : v ∉ r.guide.events := fun hmem => (hnodup.mem_erase_iff.1 (h.kept.subset hmem)).1 rfl
  have hlen : r.guide.events.length < held.length := by
    have hsub := h.kept.length_le
    rw [List.length_erase_of_mem hv] at hsub
    have := List.length_pos_of_mem hv
    omega
  refine ⟨h.kept.trans List.erase_sublist, fun w hw hout => ?_, fun w hw hout hlast => ?_, h.stored,
    fun hs => ?_, fun hs => ?_⟩
  · by_cases heq : w = v
    · subst heq
      refine ⟨hlate, fun e he => hfirst e ?_ fun e' => hgone (e' ▸ he)⟩
      exact List.mem_of_mem_erase (h.kept.subset he)
    · exact h.gone w (hnodup.mem_erase_iff.2 ⟨heq, hw⟩) hout
  · by_cases heq : w = v
    · subst heq
      have hall : held.erase w ⊆ r.guide.events := fun e he => by
        by_contra hno
        obtain ⟨hne, he⟩ := hnodup.mem_erase_iff.1 he
        exact (hfirst e he hne).asymm (hlast e he hno hne)
      have hsame : r.guide.events = held.erase w :=
        h.kept.eq_of_length_le ((hnodup.erase w).subperm hall).length_le
      rw [hsame]
      exact fun hroom => hno (hroom.perm (List.perm_cons_erase hv).symm)
    · exact h.needed w (hnodup.mem_erase_iff.2 ⟨heq, hw⟩) hout fun e he =>
        hlast e (List.mem_of_mem_erase he)
  · have hfull := h.fullRoom hs
    simp only [true_or, iff_true] at hfull
    simp [hfull, hlen]
  · obtain ⟨hfull, hkept⟩ := h.fullDropped hs
    simp only [true_or, iff_true] at hfull
    simp only [hfull, List.ne_nil_of_mem hv, ne_eq, not_false_eq_true, or_true, true_and]
    exact hkept

theorem Guide.evict_evicted {x : GuideEvent} (fuel : Nat) (g : Guide) (full : Bool) (hg : StartsApart g.events)
    (hfuel : g.events.length ≤ fuel) : Evicted g.events x full (g.evict x full fuel) := by
  induction fuel generalizing g full with
  | zero =>
    have hnil : g.events = [] := List.length_eq_zero_iff.1 (by omega)
    exact Evicted.none_gone (g.hasRoom_iff x) (fun _ => rfl) fun _ => by simp [hnil]
  | succ fuel ih =>
    unfold Guide.evict
    split_ifs with hroom
    · exact Evicted.none_gone (iff_of_true rfl ((g.hasRoom_iff x).1 hroom)) (fun _ => rfl) nofun
    · have hno := (g.hasRoom_iff x).not.1 hroom
      split
      · have hnil := Guide.victim_eq_none ‹_›
        exact Evicted.none_gone (by simp [hno]) nofun fun _ => by simp [hnil]
      · rename_i v hv
        obtain ⟨hmem, hfirst⟩ := Guide.victim_eq_some hg hv
        split_ifs with hlate
        · refine (ih { events := g.events.erase v } true (hg.sublist List.erase_sublist) ?_).cons hg hmem hfirst hlate
            hno
          change (g.events.erase v).length ≤ fuel
          rw [List.length_erase_of_mem hmem]
          omega
        · refine Evicted.none_gone (by simp [hno]) nofun fun _ => ⟨by simp [List.ne_nil_of_mem hmem], fun e he => ?_⟩
          by_cases heq : e = v
          · rw [heq]; omega
          · have := hfirst e he heq
            unfold GuideEvent.LeavesBefore at this
            omega

/-! ### Placement (O48, R75 to R80) -/

theorem GuideEvent.ended_iff {e : GuideEvent} {now : Option Nat} :
    e.ended now = true ↔ ∃ n, now = some n ∧ e.start + e.duration ≤ n := by
  cases now with
  | none => simp [GuideEvent.ended]
  | some n => exact decide_eq_true_iff.trans (by simp [GuideEvent.finish])

theorem GuideEvent.overlaps_iff {a b : GuideEvent} :
    a.overlaps b = true ↔ a.start < b.finish ∧ b.start < a.finish := by
  simp [GuideEvent.overlaps]

theorem Guide.mem_clear {g : Guide} {x e : GuideEvent} : e ∈ (g.clear x).events ↔ e ∈ g.events ∧
    ¬(e.service = x.service ∧
      (e.eventId = x.eventId ∨ (e.start < x.start + x.duration ∧ x.start < e.start + e.duration))) := by
  rw [Guide.clear, List.mem_filter, Bool.not_eq_true', ← Bool.not_eq_true, Bool.and_eq_true, Bool.or_eq_true,
    beq_iff_eq, beq_iff_eq, GuideEvent.overlaps_iff]
  rfl

theorem Guide.mem_purge {g : Guide} {now : Option Nat} {e : GuideEvent} :
    e ∈ (g.purge now).events ↔ e ∈ g.events ∧ ¬∃ n, now = some n ∧ e.start + e.duration ≤ n := by
  rw [← GuideEvent.ended_iff, Guide.purge, List.mem_filter, Bool.not_eq_true']
  simp

/-- Placement with room once the clashing records have left. -/
theorem Guide.place_room {g : Guide} {x : GuideEvent} {now : Option Nat} (hx : x.ended now = false)
    (hroom : (g.clear x).hasRoom x = true) : g.place x now = (⟨insertEvent x (g.clear x).events⟩, false) := by
  simp [Guide.place, hx, Guide.makeRoom, hroom]

/-- Placement without room: a purge, evictions, and what they come to. -/
theorem Guide.place_full {g : Guide} {x : GuideEvent} {now : Option Nat} (hx : x.ended now = false)
    (hroom : (g.clear x).hasRoom x = false) (hg : StartsApart g.events) :
    ∃ r, Evicted ((g.clear x).purge now).events x false r ∧
      g.place x now = (if r.stored then ⟨insertEvent x r.guide.events⟩ else r.guide, r.full) := by
  refine ⟨_, Guide.evict_evicted _ ((g.clear x).purge now) false
    (hg.sublist (List.filter_sublist.trans List.filter_sublist)) le_rfl, ?_⟩
  simp [Guide.place, hx, Guide.makeRoom, hroom]

/-- Settles O48, by what the evictions come to. -/
theorem guideKeepsTheSoonest : Obligations.GuideKeepsTheSoonest := by
  intro g x now hg
  have hapart : StartsApart g.events := List.Pairwise.imp (fun {a b} h => (by omega)) hg
  intro ended clashes after
  refine ⟨fun hended => if_pos (GuideEvent.ended_iff.2 hended), fun hlive => ?_⟩
  have hx : x.ended now = false := Bool.eq_false_iff.2 fun hended => hlive (GuideEvent.ended_iff.1 hended)
  refine ⟨(g.clear x).events, ((g.clear x).purge now).events, List.filter_sublist, fun e => Guide.mem_clear,
    List.filter_sublist, fun e => Guide.mem_purge, fun hroom => ?room, fun hno => ?full⟩
  case room =>
    have hplace := Guide.place_room hx ((Guide.hasRoom_iff _ _).2 hroom)
    have hafter : after = insertEvent x (g.clear x).events := by
      change (g.place x now).1.events = _
      rw [hplace]
    rw [hafter, hplace]
    exact ⟨fun e => mem_insertEvent, length_insertEvent _ _, rfl⟩
  case full =>
    obtain ⟨r, hr, hplace⟩ := Guide.place_full (g := g) hx
      (Bool.eq_false_iff.2 fun hroom => hno ((Guide.hasRoom_iff _ _).1 hroom)) hapart
    have hafter : after = if r.stored then insertEvent x r.guide.events else r.guide.events := by
      change (g.place x now).1.events = _
      rw [hplace]
      split_ifs <;> rfl
    rw [hafter, hplace]
    refine ⟨r.guide.events, hr.kept, hr.gone, hr.needed, fun hroom => ?_, fun hno => ?_⟩
    · have hs := hr.stored.2 hroom
      rw [if_pos hs]
      exact ⟨fun e => mem_insertEvent, length_insertEvent _ _, by simpa using hr.fullRoom hs⟩
    · have hs : r.stored = false := Bool.eq_false_iff.2 fun hs => hno (hr.stored.1 hs)
      obtain ⟨hfull, hkept⟩ := hr.fullDropped hs
      rw [if_neg (by simp [hs])]
      exact ⟨rfl, hkept, by simpa using hfull⟩

end Sys2Proof.Machine

/-! PROOF. The nine steps of the evaluation: O41. -/

namespace Sys2Proof.Machine

/-! ### The parental test (R121 to R123) -/

section
variable {s : State} {o : OutputId} {ch n : Nat} {u : TunerId} {sl : ServiceSlot} {e : MapEntry} {p : Profile}
  {cur : Option GuideEvent} {q : Pass} {ev : GuideEvent}

theorem Window.admits_iff (w : Window) (m : Nat) : w.admits m = true ↔
    if w.opens < w.closes then w.opens ≤ m ∧ m < w.closes else w.opens ≤ m ∨ m < w.closes := by
  unfold Window.admits
  split_ifs <;> simp

theorem State.outsideWindow_iff : p.outsideWindow s.minuteOfDay = true ↔ ∃ w, p.window = some w ∧
    ∀ c, s.tb.clock = some c →
      ¬(if w.opens < w.closes then w.opens ≤ c.second / 60 ∧ c.second / 60 < w.closes
        else w.opens ≤ c.second / 60 ∨ c.second / 60 < w.closes) := by
  unfold Profile.outsideWindow State.minuteOfDay
  cases p.window with
  | none => simp
  | some w =>
    cases s.tb.clock with
    | none => simp
    | some c =>
      have hadmits := w.admits_iff (c.second / 60)
      refine (Bool.not_eq_true' _ ▸ Iff.rfl : _ ↔ w.admits (c.second / 60) = false).trans ?_
      rw [← Bool.not_eq_true]
      refine ⟨fun hout => ⟨w, rfl, ?_⟩, ?_⟩
      · rintro _ ⟨⟩ hin
        exact hout (hadmits.2 hin)
      · rintro ⟨_, ⟨⟩, hout⟩ hin
        exact hout c rfl (hadmits.1 hin)

theorem Profile.failsUnrated_iff :
    p.failsUnrated cur = true ↔ p.blockUnrated = true ∧ ∀ ev, cur = some ev → ev.rating = 0 := by
  cases cur <;> simp [Profile.failsUnrated]

theorem Profile.failsRating_iff : p.failsRating cur = true ↔ ∃ ev, cur = some ev ∧ p.ceiling < ev.rating := by
  cases cur <;> simp [Profile.failsRating]

theorem Profile.failsContent_iff :
    p.failsContent cur = true ↔ ∃ ev, cur = some ev ∧ ev.flags &&& p.blocked ≠ 0 := by
  cases cur <;> simp [Profile.failsContent]

/-- A pass matches an output's channel and current programme (R137). -/
theorem Pass.covers_iff : q.covers ch cur = true ↔
    (∃ left, q = .channel ch left) ∨ ∃ ev, cur = some ev ∧ q = .event ch ev.eventId := by
  cases q with
  | channel service left => simp [Pass.covers]
  | event service eventId =>
    cases cur with
    | none => simp [Pass.covers]
    | some e =>
      simp only [Pass.covers, Bool.and_eq_true, beq_iff_eq]
      constructor
      · rintro ⟨rfl, rfl⟩
        exact .inr ⟨e, rfl, rfl⟩
      · rintro (⟨_, ⟨⟩⟩ | ⟨_, ⟨⟩, ⟨⟩⟩)
        exact ⟨rfl, rfl⟩

/-- The test is set aside on the output: without a PIN, or by a pass (R123). -/
abbrev State.SetAside (s : State) (o : OutputId) (ch : Nat) : Prop :=
  s.pinState = .unset ∨ ∃ q, s.pc.passes[o] = some q ∧
    ((∃ left, q = .channel ch left) ∨ ∃ ev, s.current ch = some ev ∧ q = .event ch ev.eventId)

/-- The answer of a test that applies (R121, R123). -/
def testAnswer : Option ParentalReason → TestAnswer
  | some r => .failed r
  | none => .passed

theorem State.parentalTest_overridden (hpin : s.pinState ≠ .unset) (hq : s.pc.passes[o] = some q)
    (hcovers : q.covers ch (s.current ch) = true) : s.parentalTest o ch = .overridden q := by
  unfold State.parentalTest
  cases h : s.pinState
  · exact absurd h hpin
  all_goals simp only [hq, hcovers, if_true]

theorem State.parentalTest_applied (hpin : s.pinState ≠ .unset)
    (hno : ∀ q, s.pc.passes[o] = some q → q.covers ch (s.current ch) = false) :
    s.parentalTest o ch = testAnswer ((s.boundProfile o).test ch s.minuteOfDay (s.current ch)) := by
  unfold State.parentalTest
  cases h : s.pinState
  · exact absurd h hpin
  all_goals
    cases hq : s.pc.passes[o] with
    | none => rfl
    | some q =>
      simp only [hno q hq, Bool.false_eq_true, if_false]
      rfl

theorem State.parentalTest_cases (s : State) (o : OutputId) (ch : Nat) :
    (s.pinState = .unset ∧ s.parentalTest o ch = .notApplied) ∨
      (s.pinState ≠ .unset ∧ ∃ q, s.pc.passes[o] = some q ∧ q.covers ch (s.current ch) = true ∧
        s.parentalTest o ch = .overridden q) ∨
      (¬s.SetAside o ch ∧
        s.parentalTest o ch = testAnswer ((s.boundProfile o).test ch s.minuteOfDay (s.current ch))) := by
  by_cases hpin : s.pinState = .unset
  · exact .inl ⟨hpin, by simp only [State.parentalTest, hpin]⟩
  · by_cases hpass : ∃ q, s.pc.passes[o] = some q ∧ q.covers ch (s.current ch) = true
    · obtain ⟨q, hq, hcovers⟩ := hpass
      exact .inr (.inl ⟨hpin, q, hq, hcovers, State.parentalTest_overridden hpin hq hcovers⟩)
    · refine .inr (.inr ⟨?_, State.parentalTest_applied hpin fun q hq =>
        Bool.eq_false_iff.2 fun hcovers => hpass ⟨q, hq, hcovers⟩⟩)
      rintro (hunset | ⟨q, hq, hcovers⟩)
      · exact hpin hunset
      · exact hpass ⟨q, hq, Pass.covers_iff.2 hcovers⟩

theorem State.parentalTest_notAside (h : ¬s.SetAside o ch) :
    s.parentalTest o ch = testAnswer ((s.boundProfile o).test ch s.minuteOfDay (s.current ch)) := by
  obtain ⟨hpin, -⟩ | ⟨-, q, hq, hcovers, -⟩ | ⟨-, htest⟩ := s.parentalTest_cases o ch
  · exact absurd (.inl hpin) h
  · exact absurd (.inr ⟨q, hq, Pass.covers_iff.1 hcovers⟩) h
  · exact htest

theorem State.parentalTest_aside (h : s.SetAside o ch) (r : ParentalReason) : s.parentalTest o ch ≠ .failed r := by
  obtain ⟨-, htest⟩ | ⟨-, q, -, -, htest⟩ | ⟨hno, -⟩ := s.parentalTest_cases o ch
  · rw [htest]; nofun
  · rw [htest]; nofun
  · exact absurd h hno

/-! ### The steps (R149 to R154) -/

theorem State.decideOutput_attached (hm : s.ou[o].mode = .active) (hch : s.ou[o].channel = some ch)
    (hatt : s.ou[o].attachment = .tuner u sl) : s.decideOutput o = s.decideAttached o ch u := by
  simp only [State.decideOutput, hm, hch, hatt]

theorem State.decideAttached_connected (h : s.ep.ent.unitState = .active) :
    s.ep.ent.unitState ≠ .disconnected := by rw [h]; decide

theorem State.decideAttached_blocked {r : ParentalReason} (hunit : s.ep.ent.unitState = .active)
    (hlocked : s.tp.tuners[u].state = .locked) (hres : s.cm.committed.resolve ch = some e)
    (h : s.parentalTest o ch = .failed r) : s.decideAttached o ch u = (.blockedParental r, none) := by
  simp only [State.decideAttached, if_neg (State.decideAttached_connected hunit), hlocked, hres, h]

theorem State.decideAttached_admitted (hunit : s.ep.ent.unitState = .active)
    (hlocked : s.tp.tuners[u].state = .locked) (hres : s.cm.committed.resolve ch = some e)
    (h : ∀ r, s.parentalTest o ch ≠ .failed r) : (s.decideAttached o ch u).1 = s.decideEntitled e := by
  simp only [State.decideAttached, if_neg (State.decideAttached_connected hunit), hlocked, hres]
  cases htest : s.parentalTest o ch with
  | failed r => exact absurd htest (h r)
  | notApplied => rfl
  | overridden q => rfl
  | passed => rfl

theorem State.decidePay_noEvent (h : s.current ch = none) : s.decidePay ch = .blockedPay .noEvent := by
  unfold State.decidePay
  rw [h]
  cases s.now <;> rfl

theorem State.decidePay_free (hnow : s.now = some n) (hcur : s.current ch = some ev) (h : ev.price = 0) :
    s.decidePay ch = .clear := by
  simp only [State.decidePay, hnow, hcur, if_pos h]

theorem State.decidePay_bought {x : Purchase} (hnow : s.now = some n) (hcur : s.current ch = some ev)
    (h : ev.price ≠ 0) (hx : s.ep.recordFor ch ev.eventId = some x) (hstate : x.state ≠ .pending) :
    s.decidePay ch = .clear := by
  simp only [State.decidePay, hnow, hcur, if_neg h, hx, Option.map_some]
  cases hs : x.state
  · exact absurd hs hstate
  · rfl
  · rfl

/-- A programme not bought, or whose purchase is still to be written, is previewed, then blocked (R154). -/
theorem State.decidePay_unbought (hnow : s.now = some n) (hcur : s.current ch = some ev) (h : ev.price ≠ 0)
    (hstate : ∀ x, s.ep.recordFor ch ev.eventId = some x → x.state = .pending) :
    s.decidePay ch = if n < ev.start + ev.preview then .preview (ev.start + ev.preview - n)
      else .blockedPay (if s.ep.recordFor ch ev.eventId = none then .notBought else .pending) := by
  simp only [State.decidePay, hnow, hcur, if_neg h]
  cases hx : s.ep.recordFor ch ev.eventId with
  | none => rfl
  | some x =>
    simp only [Option.map_some, hstate x hx]
    rfl

theorem State.tierEffective_iff {k : TierId} : s.tierEffective k = true ↔ s.ep.ent.tiers[k].held = true ∧
    ∀ c, s.tb.clock = some c → c.day ≤ s.ep.ent.tiers[k].expiry := by
  unfold State.tierEffective TierRecord.effective
  cases s.tb.clock <;> simp

theorem State.decideAttached_pass (h : (s.decideAttached o ch u).2 = some q) :
    s.ep.ent.unitState = .active ∧ s.tp.tuners[u].state = .locked ∧
      ∃ e, s.cm.committed.resolve ch = some e ∧ s.parentalTest o ch = .overridden q := by
  unfold State.decideAttached at h
  cases hunit : s.ep.ent.unitState with
  | disconnected => rw [if_pos hunit] at h; cases h
  | active =>
    rw [if_neg (State.decideAttached_connected hunit)] at h
    cases hstate : s.tp.tuners[u].state <;> simp only [hstate] at h
    case locked =>
      cases hres : s.cm.committed.resolve ch <;> simp only [hres] at h
      case none => cases h
      case some e => 
        cases htest : s.parentalTest o ch <;> simp only [htest] at h <;> cases h
        exact ⟨rfl, rfl, e, rfl, rfl⟩
    all_goals cases h

/-- The pass that a decision names is the one that set the test aside (R123, R137, R155). -/
theorem State.decideOutput_pass : (s.decideOutput o).2 = some q ↔
    s.ou[o].mode = .active ∧ s.ep.ent.unitState = .active ∧ s.pinState ≠ .unset ∧
      s.pc.passes[o] = some q ∧ ∃ ch u sl e, s.ou[o].channel = some ch ∧
        s.ou[o].attachment = .tuner u sl ∧ s.tp.tuners[u].state = .locked ∧
        s.cm.committed.resolve ch = some e ∧ q.covers ch (s.current ch) = true := by
  constructor
  · intro h
    cases hm : s.ou[o].mode <;> simp only [State.decideOutput, hm] at h
    case standby => cases h
    case active =>
      cases hch : s.ou[o].channel <;> simp only [hch] at h
      case none => cases h
      case some ch =>
        cases hatt : s.ou[o].attachment <;> simp only [hatt] at h
        case tuner u sl =>
          obtain ⟨hunit, hlocked, e, hres, htest⟩ := State.decideAttached_pass h
          obtain ⟨-, hno⟩ | ⟨hpin, q', hq, hcovers, hyes⟩ | ⟨-, hno⟩ := s.parentalTest_cases o ch
          · rw [htest] at hno; cases hno
          · obtain rfl : q = q' := by simpa [htest] using hyes
            exact ⟨rfl, hunit, hpin, hq, ch, u, sl, e, rfl, rfl, hlocked, hres, hcovers⟩
          · rw [htest] at hno
            cases hcond : (s.boundProfile o).test ch s.minuteOfDay (s.current ch) <;> rw [hcond] at hno <;> cases hno
        all_goals cases h
  · rintro ⟨hm, hunit, hpin, hq, ch, u, sl, e, hch, hatt, hlocked, hres, hcovers⟩
    rw [State.decideOutput_attached hm hch hatt]
    simp only [State.decideAttached, if_neg (State.decideAttached_connected hunit), hlocked, hres,
      State.parentalTest_overridden hpin hq hcovers]

end

theorem Attachment.route?_eq_some {a : Attachment} {u : TunerId} {sl : ServiceSlot} :
    a.route? = some ⟨u, sl⟩ ↔ a = .tuner u sl := by
  cases a <;> simp [Attachment.route?]

theorem Decision.showsPicture_iff {d : Decision} : d.showsPicture = true ↔ d = .clear ∨ ∃ n, d = .preview n := by
  cases d <;> simp [Decision.showsPicture]

theorem State.scrambled_iff {s : State} {o : OutputId} :
    s.scrambled o = true ↔ ∃ e, s.entryOf o = some e ∧ e.scrambled = true := by
  unfold State.scrambled
  cases s.entryOf o <;> simp

theorem State.currentOf_eq_some {s : State} {o : OutputId} {e : GuideEvent} :
    s.currentOf o = some e ↔ ∃ ch, s.ou[o].channel = some ch ∧ s.current ch = some e := by
  unfold State.currentOf
  cases s.ou[o].channel <;> simp

theorem State.decideAttached_fails {s : State} {o : OutputId} {ch : Nat} {u : TunerId} {e : MapEntry}
    {r : ParentalReason} (hunit : s.ep.ent.unitState = .active) (hstate : s.tp.tuners[u].state = .locked)
    (hres : s.cm.committed.resolve ch = some e) (haside : ¬s.SetAside o ch)
    (htest : (s.boundProfile o).test ch s.minuteOfDay (s.current ch) = some r) :
    (s.decideAttached o ch u).1 = .blockedParental r := by
  have hfailed : s.parentalTest o ch = .failed r := by rw [State.parentalTest_notAside haside, htest]; rfl
  exact congrArg Prod.fst (State.decideAttached_blocked hunit hstate hres hfailed)

theorem State.decideEntitled_tier {s : State} {e : MapEntry} {k : TierId} (h : e.access = .tier k) :
    s.decideEntitled e = if s.tierEffective k then .clear else .blockedTier k := by
  simp only [State.decideEntitled, h]

/-- Settles O41, step by step. -/
theorem decisionsFollowTheNineSteps : Obligations.DecisionsFollowTheNineSteps := by
  intro s o d
  refine ⟨Decision.showsPicture_iff, ?descramble, rfl, fun u sl => Attachment.route?_eq_some, fun n => ?event,
    fun q => ?pass, fun hm => ?standby, fun hm hch => ?blank, fun hm hch hatt => ?waiting,
    fun ch u sl e hm hch hatt hres => ?attached⟩
  case descramble =>
    rw [← State.scrambled_iff, ← Bool.and_eq_true]
    exact Iff.rfl
  case event =>
    change (if s.isActive o then (s.currentOf o).map GuideEvent.eventId else none) = some n ↔ _
    simp only [State.isActive, beq_iff_eq, Option.ite_none_right_eq_some, Option.map_eq_some_iff,
      State.currentOf_eq_some]
    exact ⟨fun ⟨hm, e, ⟨ch, hch, hcur⟩, hid⟩ => ⟨hm, ch, e, hch, hcur, hid⟩,
      fun ⟨hm, ch, e, hch, hcur, hid⟩ => ⟨hm, e, ⟨ch, hch, hcur⟩, hid⟩⟩
  case pass =>
    refine State.decideOutput_pass.trans ?_
    simp only [Pass.covers_iff]
  case standby =>
    have h : s.decideOutput o = (.off, none) := by simp only [State.decideOutput, hm]
    exact congrArg Prod.fst h
  case blank =>
    have h : s.decideOutput o = (.blank, none) := by simp only [State.decideOutput, hm, hch]
    exact congrArg Prod.fst h
  case waiting =>
    obtain ⟨ch, hch⟩ := Option.ne_none_iff_exists'.1 hch
    have h : s.decideOutput o = (.noTuner, none) := by simp only [State.decideOutput, hm, hch, hatt]
    exact congrArg Prod.fst h
  case attached =>
    have hd : d = (s.decideAttached o ch u).1 := congrArg Prod.fst (State.decideOutput_attached hm hch hatt)
    rw [hd]
    intro p cur aside inside locked shut unrated rated content admitted
    have hlocked : p.locked.contains ch = true ↔ locked := List.contains_iff_mem
    have hshut : p.outsideWindow s.minuteOfDay = true ↔ shut := State.outsideWindow_iff
    have hunrated : p.failsUnrated cur = true ↔ unrated := Profile.failsUnrated_iff
    have hrated : p.failsRating cur = true ↔ rated := Profile.failsRating_iff
    have hcontent : p.failsContent cur = true ↔ content := Profile.failsContent_iff
    refine ⟨fun hunit => ?_, fun hunit => ⟨fun hstate => ?_, fun hstate => ?_, fun hstate => ?_⟩⟩
    · rw [State.decideAttached, if_pos hunit]
    · rw [State.decideAttached, if_neg (State.decideAttached_connected hunit)]
      rcases hstate with hstate | hstate <;> rw [hstate]
    · rw [State.decideAttached, if_neg (State.decideAttached_connected hunit), hstate]
    · have fails : ¬aside → ∀ r, p.test ch s.minuteOfDay cur = some r →
          (s.decideAttached o ch u).1 = .blockedParental r :=
        fun haside r => State.decideAttached_fails hunit hstate hres haside
      have admits : admitted → (s.decideAttached o ch u).1 = s.decideEntitled e := by
        intro hadmitted
        refine State.decideAttached_admitted hunit hstate hres fun r => ?_
        by_cases haside : s.SetAside o ch
        · exact State.parentalTest_aside haside r
        · obtain ⟨h1, h2, h3, h4, h5⟩ := hadmitted.resolve_left haside
          have htest : p.test ch s.minuteOfDay cur = none := by
            simp only [Profile.test, hlocked, hshut, hunrated, hrated, hcontent, h1, h2, h3, h4, h5, if_false]
          rw [State.parentalTest_notAside haside]
          change testAnswer (p.test ch s.minuteOfDay cur) ≠ _
          rw [htest]
          nofun
      refine ⟨fun ha h1 => fails ha _ ?_, fun ha h1 h2 => fails ha _ ?_, fun ha h1 h2 h3 => fails ha _ ?_,
        fun ha h1 h2 h3 h4 => fails ha _ ?_, fun ha h1 h2 h3 h4 h5 => fails ha _ ?_, fun ha hfree => ?_,
        fun ha k hk => ?_, fun ha hpay => ?_⟩
      · simp only [Profile.test, hlocked, h1, if_true]
      · simp only [Profile.test, hlocked, hshut, h1, h2, if_true, if_false]
      · simp only [Profile.test, hlocked, hshut, hunrated, h1, h2, h3, if_true, if_false]
      · simp only [Profile.test, hlocked, hshut, hunrated, hrated, h1, h2, h3, h4, if_true, if_false]
      · simp only [Profile.test, hlocked, hshut, hunrated, hrated, hcontent, h1, h2, h3, h4, h5, if_true, if_false]
      · rw [admits ha, State.decideEntitled, hfree]
      · intro good
        have hgood : s.tierEffective k = true ↔ good := State.tierEffective_iff
        rw [admits ha, State.decideEntitled_tier hk]
        exact ⟨fun h => if_pos (hgood.2 h), fun h => if_neg fun h' => h (hgood.1 h')⟩
      · have hpaid : s.decideEntitled e = s.decidePay ch := by
          rw [State.decideEntitled, hpay, (Lineup.mem_of_resolve hres).2]
        rw [admits ha, hpaid]
        refine ⟨fun hcur => State.decidePay_noEvent hcur, fun ev n hcur hnow =>
          ⟨fun hprice => State.decidePay_free hnow hcur hprice, fun hprice => ?_⟩⟩
        intro bought
        refine ⟨fun x hx hstate => State.decidePay_bought hnow hcur hprice hx hstate, fun hpending => ?_⟩
        rw [State.decidePay_unbought hnow hcur hprice hpending]
        exact ⟨fun h => if_pos h, fun h => if_neg (Nat.not_lt.2 h)⟩

end Sys2Proof.Machine

/-! PROOF. The resets, the assertion of RESET and the loss of supply, and the load end: O19, O20 and O21. -/

namespace Sys2Proof.Machine

/-! ### Gates off and route words of none (R56, R59, R196) -/

theorem State.loadRoute_gates (o : OutputId) (r : Option Route) (s : State) :
    (s.loadRoute o r).pins.picture = s.pins.picture.set o false ∧
      (s.loadRoute o r).pins.descramble = s.pins.descramble.set o false := by
  obtain ⟨hdescramble, hkept⟩ := s.driveDescramble_gates o false
  obtain ⟨hpicture, hkept'⟩ := (s.driveDescramble o false).drivePicture_gates o false
  exact ⟨by rw [← hkept, ← hpicture]; rfl, by rw [← hdescramble, ← hkept']; rfl⟩

theorem State.loadRoute_wave (o : OutputId) (r : Option Route) (s : State) :
    ∃ w, (s.loadRoute o r).pins.wave = s.pins.wave ++ w ∧ .route o (routeWord r) ∈ w := by
  have hoff : s.PinsOnly (s.gatesOff o) :=
    (State.driveDescramble_pinsOnly o false s).trans (State.drivePicture_pinsOnly o false _)
  obtain ⟨w, hw⟩ := hoff.wave
  refine ⟨w ++ [.route o (routeWord r)], ?_, List.mem_append_right _ (List.mem_singleton.2 rfl)⟩
  rw [← List.append_assoc, ← hw]
  rfl

theorem State.darken_gates (s : State) (o : OutputId) :
    s.darken.pins.picture[o] = false ∧ s.darken.pins.descramble[o] = false := by
  simp only [State.darken, allOutputs, List.foldl_cons, List.foldl_nil, State.loadRoute_gates]
  fin_cases o <;> simp

theorem State.darken_routesDark (s : State) : s.RoutesDark s.darken := by
  suffices h : ∀ (l : List OutputId) (a : State), ∃ w,
      (l.foldl (fun acc o => acc.loadRoute o none) a).pins.wave = a.pins.wave ++ w ∧ ∀ o ∈ l, .route o 0b1100 ∈ w by
    obtain ⟨w, hw, hall⟩ := h allOutputs s
    exact ⟨w, hw, fun o => hall o (State.mem_allOutputs o)⟩
  intro l
  induction l with
  | nil => exact fun a => ⟨[], by simp⟩
  | cons o l ih =>
    intro a
    obtain ⟨v, hv, ho⟩ := a.loadRoute_wave o none
    obtain ⟨w, hw, hall⟩ := ih (a.loadRoute o none)
    refine ⟨v ++ w, by rw [List.foldl_cons, hw, hv, List.append_assoc], fun p hp => ?_⟩
    obtain rfl | hp := List.mem_cons.1 hp
    · exact List.mem_append_left _ ho
    · exact List.mem_append_right _ (hall p hp)

/-- The words loaded after some pin moves are loaded since before them. -/
theorem State.RoutesDark.after {s m t : State} (h : m.RoutesDark t) {v : List PinEvent}
    (hm : m.pins.wave = s.pins.wave ++ v) : s.RoutesDark t := by
  obtain ⟨w, hw, hall⟩ := h
  exact ⟨v ++ w, by rw [hw, hm, List.append_assoc], fun o => List.mem_append_right _ (hall o)⟩

/-! ### The resets (O19) -/

theorem State.resetAll_resets (cause : ResetCause) (tb : TimeBase) (s : State) :
    s.ResetTo cause tb (s.resetAll cause tb) := by
  have hgates := (s.freshBlocks cause tb).darken_gates
  have hrest := (s.resetAll_fresh cause tb).rest
  change ∀ o : OutputId, (s.resetAll cause tb).pins.picture[o] = false ∧
    (s.resetAll cause tb).pins.descramble[o] = false at hgates
  generalize s.resetAll cause tb = t at hrest hgates ⊢
  generalize t.pins = pins at hrest hgates
  subst hrest
  refine ⟨rfl, rfl, ⟨rfl, rfl, rfl, rfl, rfl, rfl⟩, rfl, rfl, fun u => ?_, fun o => ?_, rfl, rfl,
    ⟨rfl, fun o => ?_⟩, fun o => ?_, ⟨rfl, rfl, rfl⟩, hgates, rfl⟩
  · exact Vector.getElem_replicate _
  · exact Vector.getElem_replicate _
  · exact Vector.getElem_replicate _
  · exact Vector.getElem_replicate _

theorem State.ResetTo.after {s m t : State} {cause : ResetCause} {tb : TimeBase} (h : m.ResetTo cause tb t)
    (hrecords : m.ss.records = s.ss.records) (hpending : m.pending = s.pending) : s.ResetTo cause tb t := by
  rw [State.ResetTo, ← hrecords, ← hpending]
  exact h

theorem State.resetAll_routesDark (cause : ResetCause) (tb : TimeBase) (s : State) :
    s.RoutesDark (s.resetAll cause tb) := (s.freshBlocks cause tb).darken_routesDark

/-- Settles O19, kind by kind. -/
theorem everyResetKindGivesItsState : Obligations.EveryResetKindGivesItsState := by
  intro s
  have resets (cause : ResetCause) : s.ResetTo cause ⟨0, none⟩ (s.resetAll cause .initial) ∧
      s.RoutesDark (s.resetAll cause .initial) :=
    ⟨s.resetAll_resets cause .initial, s.resetAll_routesDark cause .initial⟩
  refine ⟨⟨s.resetAll .powerOn .initial, rfl, resets .powerOn⟩, fun hheld =>
    ⟨s.resetAll .resetLine .initial, congrArg Host.Outcome.next (if_pos hheld), resets .resetLine⟩,
    fun r rest hphase oldest stopped hkind hstatus => ?_⟩
  have own : s.cl.isRestartReply r = true := by
    simp only [ControlLink.isRestartReply, stopped, hkind, hstatus, Bool.true_and]
    decide
  have hexec : exec .replySent s = .next
      (({ s with cl := { s.cl with transmit := rest } } : State).emit (.reply r.frame)).restartPart := by
    change execReplySent s = _
    rw [execReplySent, if_pos (State.linkAlive_iff.2 hphase)]
    simp only [State.replySent, oldest, own, if_true]
  have hwave : (({ s with cl := { s.cl with transmit := rest } } : State).emit (.reply r.frame)).pins.wave =
      s.pins.wave ++ [.reply r.frame] := rfl
  have hrecords : (({ s with cl := { s.cl with transmit := rest } } : State).emit (.reply r.frame)).ss.records =
      s.ss.records := rfl
  have hpending : (({ s with cl := { s.cl with transmit := rest } } : State).emit (.reply r.frame)).pending =
      s.pending := rfl
  have htime : (({ s with cl := { s.cl with transmit := rest } } : State).emit (.reply r.frame)).tb = s.tb := rfl
  generalize ({ s with cl := { s.cl with transmit := rest } } : State).emit (.reply r.frame) = m
    at hexec hwave hrecords hpending htime
  rw [State.restartPart, htime] at hexec
  exact ⟨m.resetAll .restart s.tb, hexec, (m.resetAll_resets .restart s.tb).after hrecords hpending,
    (m.resetAll_routesDark .restart s.tb).after hwave⟩

/-! ### The RESET line and the supply (O20) -/

theorem State.transmitting_of_alive {s : State} (h : s.phase = .loading ∨ s.phase = .running) :
    s.transmitting = s.cl.transmit.head? := by
  unfold State.transmitting
  rcases h with h | h <;> rw [h]

/-- At the assertion the gates and route words follow the reply that is cut off (R196; log 13). -/
theorem State.assertReset_wave (s : State) : ∃ w, s.assertReset.pins.wave = s.cutReply.pins.wave ++ w ∧
    ∀ o : OutputId, .route o 0b1100 ∈ w := State.darken_routesDark _

theorem State.assertReset_drives {s : State} {r : Reply} (h : s.transmitting = some r) :
    ∃ sent, s.Drives s.assertReset (.replyCut r.frame sent) := by
  obtain ⟨sent, hsent⟩ := State.cutReply_wave h
  obtain ⟨w, hw, -⟩ := s.assertReset_wave
  rw [hsent, List.append_assoc] at hw
  exact ⟨sent, _, hw, List.mem_append_left _ (List.mem_singleton.2 rfl)⟩

theorem State.assertReset_routesDark (s : State) : s.RoutesDark s.assertReset := by
  obtain ⟨v, hv⟩ := s.cutReply_pinsOnly.wave
  obtain ⟨w, hw, hall⟩ := s.assertReset_wave
  exact ⟨v ++ w, by rw [hw, hv, List.append_assoc], fun o => List.mem_append_right _ (hall o)⟩

theorem exec_resetLineAssert_alive {s : State} (h : s.phase = .loading ∨ s.phase = .running) :
    exec .resetLineAssert s = .next s.assertReset := by
  change execResetLineAssert s = _
  unfold execResetLineAssert
  rcases h with h | h <;> rw [h]

/-- Settles O20, the RESET line and then the supply. -/
theorem resetAssertionAndPowerLossStopThePart : Obligations.ResetAssertionAndPowerLossStopThePart := by
  intro s
  refine ⟨fun hphase => ⟨_, exec_resetLineAssert_alive hphase, ?_⟩, fun hon =>
    ⟨_, congrArg Host.Outcome.next (if_neg hon), rfl, rfl, rfl, rfl, fun o => ?_, rfl⟩⟩
  · have hrest := s.assertReset_rest.rest
    have hgates : ∀ o : OutputId, s.assertReset.pins.picture[o] = false ∧ s.assertReset.pins.descramble[o] = false :=
      State.darken_gates _
    have hcut : ∀ r rest, s.cl.transmit = r :: rest → ∃ sent, s.Drives s.assertReset (.replyCut r.frame sent) := by
      intro r rest oldest
      refine State.assertReset_drives ?_
      rw [State.transmitting_of_alive hphase, oldest]
      rfl
    have hdark := s.assertReset_routesDark
    generalize s.assertReset = t at hrest hgates hcut hdark ⊢
    generalize hpins : t.pins = pins at hrest
    subst hrest
    exact ⟨rfl, rfl, rfl, rfl, hcut, hgates, hdark, rfl, rfl, rfl, rfl, rfl, rfl⟩
  · exact ⟨Vector.getElem_replicate _, Vector.getElem_replicate _⟩

/-! ### The load end (O21) -/

theorem State.endLoad_rest (s : State) : ∃ dirty engine, s.endLoad = { s.takeRecords with
    phase := .running, cl := s.cl.setLatch .ready
    ss := { s.ss with dirty := dirty, engine := engine } } := by
  have hwrite := ((s.takeRecords.markSlots_dirties s.ss.records.reconciled).latch .ready).startWrite
  exact ⟨_, _, congrArg (fun m : State => ({ m with phase := .running } : State)) hwrite⟩

theorem ControlLink.setLatch_ready (c : ControlLink) : c.setLatch .ready = { c with latches := c.latches ||| 1#17 } :=
  rfl

/-- Settles O21: each block is as its records are taken, and the blocks without records stand. -/
theorem loadEndTakesTheStoredState : Obligations.LoadEndTakesTheStoredState := by
  intro s hphase
  refine ⟨s.endLoad, congrArg Host.Outcome.next (if_pos hphase), ?_⟩
  obtain ⟨dirty, engine, hrest⟩ := s.endLoad_rest
  rw [hrest]
  refine ⟨rfl, rfl, rfl, readRecord_takes _ _, rfl, readRecord_takes _ _, rfl, readRecord_takes _ _, rfl,
    fun p => ?_, readRecord_takes _ _, readRecord_takes _ _, readRecord_takes _ _, rfl, rfl, rfl⟩
  have hp : (s.ss.records.profiles.map fun x => (readRecord x).getD .initial)[p] =
      (readRecord s.ss.records.profiles[p]).getD .initial := Vector.getElem_map ..
  exact (congrArg _ hp).mpr (readRecord_takes _ _)

end Sys2Proof.Machine

/-! PROOF. What a part that is held, off or loading does with each command: O18. -/

namespace Sys2Proof.Machine

/-- The blocks that a command in the load period may change: the clock's count, the parser and the replies, the
FSTB level with its handshake, and the record of the pins. -/
structure State.Loads (c : Instr) (s t : State) : Prop where
  rest : t = { s with tb := t.tb, cl := t.cl, hf := t.hf, pins := t.pins }
  tb : c ≠ .secondExpiry → t.tb = s.tb
  hf : t.hf = { s.hf with fstbHigh := t.hf.fstbHigh, fackHeld := t.hf.fackHeld, handshake := t.hf.handshake }
  handshake : s.hf.handshake = false → t.hf.handshake = false
  cl : t.cl = { s.cl with parser := t.cl.parser, transmit := t.cl.transmit }
  picture : t.pins.picture = s.pins.picture
  descramble : t.pins.descramble = s.pins.descramble

theorem ControlLink.receive_partial {l : ControlLink} {loading : Bool} {b : Byte} {p : Parser}
    (h : l.parser.feed b = (p, none)) : l.receive loading (.byte b) = { l with parser := p } := by
  simp only [ControlLink.receive, h]

theorem ControlLink.receive_whole {l : ControlLink} {loading : Bool} {b : Byte} {p : Parser} {r : Request}
    (h : l.parser.feed b = (p, some r)) :
    l.receive loading (.byte b) = ({ l with parser := p } : ControlLink).completeFrame loading r := by
  simp only [ControlLink.receive, h]

theorem ControlLink.receive_loading (l : ControlLink) (ch : Character) :
    ∃ p replies, l.receive true ch = { l with parser := p, transmit := replies } := by
  cases ch with
  | framingError => exact ⟨_, _, rfl⟩
  | byte b =>
    rcases h : l.parser.feed b with ⟨p, - | r⟩
    · exact ⟨_, _, ControlLink.receive_partial h⟩
    · rw [ControlLink.receive_whole h, ControlLink.completeFrame, if_pos (Bool.true_or _)]
      split_ifs <;> exact ⟨_, _, rfl⟩

/-- What a held part, or one without supply, does with a command that does not end that state (R196). -/
theorem Does.dormant {c : Instr} {s t : State} (h : Does c s t) (hphase : s.phase = .held ∨ s.phase = .off)
    (hengine : s.ss.engine = none) (hon : c ≠ .powerOn) (hloss : c ≠ .powerLoss) (hrelease : c ≠ .resetLineRelease) :
    t = s ∨ ((∃ fd, c = .fstbActiveEdge fd ∨ c = .fstbRelease fd) ∧ t = { s with hf := { s.hf with
      fstbHigh := t.hf.fstbHigh, fackHeld := t.hf.fackHeld, handshake := t.hf.handshake } } ∧
      (s.hf.handshake = false → t.hf.handshake = false)) := by
  have hrun {P : Prop} (h : s.phase = .running) : P := by rcases hphase with hp | hp <;> rw [hp] at h <;> cases h
  have hload {P : Prop} (h : s.phase = .loading) : P := by rcases hphase with hp | hp <;> rw [hp] at h <;> cases h
  have halive {P : Prop} (h : s.linkAlive = true) : P := (State.linkAlive_iff.1 h).elim hrun hload
  cases h with
  | nothing => exact .inl rfl
  | powerOn => exact absurd rfl hon
  | powerLoss => exact absurd rfl hloss
  | releaseReset => exact absurd rfl hrelease
  | assertReset _ h => exact h.elim hload hrun
  | loadEnd _ h => exact hload h
  | tick _ h => exact h.elim hload fun h => hrun h.1
  | minute _ h => exact hrun h
  | receive _ _ h => exact halive h
  | gapExpiry _ h => exact halive h
  | replySent _ _ _ h => exact halive h
  | restart _ _ _ h => exact halive h
  | serves _ _ _ _ _ _ _ _ h => exact hrun h.1
  | takes _ _ _ _ h => exact hrun h.1
  | edgeOpen _ _ _ h => exact hrun h
  | edgeClosed fd => exact .inr ⟨⟨fd, .inl rfl⟩, rfl, fun h => h⟩
  | releaseTakes _ _ h => exact hrun h
  | release fd => exact .inr ⟨⟨fd, .inr rfl⟩, rfl, fun _ => rfl⟩
  | timeout _ _ h => exact hrun h
  | byteRead _ _ h => exact hrun h
  | gapMark _ h => exact hrun h
  | silent _ h => exact hrun h
  | tunerMoves _ _ _ _ h => exact hrun h
  | tunerFaults _ _ _ _ h => exact hrun h
  | tunerLoads _ _ _ _ h => exact hrun h
  | writeDone _ _ h => rw [hengine] at h; cases h

/-- What a loading part does with a command that does not end the load (R206). -/
theorem Does.loads {c : Instr} {s t : State} (h : Does c s t) (hload : s.phase = .loading)
    (hstopped : s.cl.stopped = false) (hengine : s.ss.engine = none) (hreset : s.mayReset c = false)
    (hassert : c ≠ .resetLineAssert) (hend : c ≠ .loadEnd) : s.Loads c t := by
  have hrun {P : Prop} (h : s.phase = .running) : P := by rw [hload] at h; cases h
  have moves {P : Prop} (h : s.mayReset c = true) : P := by rw [hreset] at h; cases h
  cases h with
  | nothing => exact ⟨rfl, fun _ => rfl, rfl, fun h => h, rfl, rfl, rfl⟩
  | powerOn => exact moves rfl
  | powerLoss => exact moves rfl
  | releaseReset => exact moves rfl
  | assertReset => exact absurd rfl hassert
  | loadEnd => exact absurd rfl hend
  | tick => exact ⟨rfl, fun h => absurd rfl h, rfl, fun h => h, rfl, rfl, rfl⟩
  | minute _ h => exact hrun h
  | receive ch _ _ =>
    have hloading : (s.phase == .loading) = true := by rw [hload]; rfl
    obtain ⟨p, replies, hcl⟩ := s.cl.receive_loading ch
    rw [hloading, hcl]
    exact ⟨rfl, fun _ => rfl, rfl, fun h => h, rfl, rfl, rfl⟩
  | gapExpiry => exact ⟨rfl, fun _ => rfl, rfl, fun h => h, rfl, rfl, rfl⟩
  | replySent => exact ⟨rfl, fun _ => rfl, rfl, fun h => h, rfl, rfl, rfl⟩
  | restart r _ _ _ _ own =>
    rw [ControlLink.isRestartReply, hstopped] at own
    cases own
  | serves _ _ _ _ _ _ _ _ h => exact hrun h.1
  | takes _ _ _ _ h => exact hrun h.1
  | edgeOpen _ _ _ h => exact hrun h
  | edgeClosed fd => exact ⟨rfl, fun _ => rfl, rfl, fun h => h, rfl, rfl, rfl⟩
  | releaseTakes _ _ h => exact hrun h
  | release fd => exact ⟨rfl, fun _ => rfl, rfl, fun _ => rfl, rfl, rfl, rfl⟩
  | timeout _ _ h => exact hrun h
  | byteRead _ _ h => exact hrun h
  | gapMark _ h => exact hrun h
  | silent _ h => exact hrun h
  | tunerMoves _ _ _ _ h => exact hrun h
  | tunerFaults _ _ _ _ h => exact hrun h
  | tunerLoads _ _ _ _ h => exact hrun h
  | writeDone _ _ h => rw [hengine] at h; cases h

/-- Settles O18, by what each command can do in each phase. -/
theorem loadPeriodServesNothing : Obligations.LoadPeriodServesNothing := by
  refine ⟨fun c s hphase hengine hon hloss hrelease => ?_, fun c s t hload hstopped hengine hexec hreset hassert hend =>
    ?_⟩
  · obtain ⟨t, hexec, does⟩ := exec_does c s
    obtain rfl | ⟨⟨fd, hc⟩, hrest, hhandshake⟩ := does.dormant hphase hengine hon hloss hrelease
    · exact ⟨fun _ => hexec, t, hexec, rfl, fun h => h⟩
    · exact ⟨fun hno => (hc.elim (hno fd).1 (hno fd).2).elim, t, hexec, hrest, hhandshake⟩
  · obtain ⟨hrest, htb, hhf, hhandshake, hcl, hpicture, hdescramble⟩ :=
      (does_of_exec hexec).loads hload hstopped hengine hreset hassert hend
    exact ⟨hrest, htb, ⟨hhf, hhandshake⟩, hcl, hpicture, hdescramble⟩

end Sys2Proof.Machine

/-! PROOF. The order of the pin moves in every operation on them (R56, R57, R156); and the latches that an
evaluation sets (R162). -/

namespace Sys2Proof.Machine

/-! ### Runs of pin moves -/

section
variable {p d : Vector Bool 4}

theorem gatesAfter_append (a b : List PinEvent) :
    gatesAfter p d (a ++ b) = gatesAfter (gatesAfter p d a).1 (gatesAfter p d a).2 b := by
  induction a generalizing p d with
  | nil => rfl
  | cons e a ih => cases e <;> exact ih

theorem waveLawful_append (a b : List PinEvent) : waveLawful p d (a ++ b) =
    (waveLawful p d a && waveLawful (gatesAfter p d a).1 (gatesAfter p d a).2 b) := by
  induction a generalizing p d with
  | nil => rfl
  | cons e a ih =>
    cases e <;> simp only [List.cons_append, waveLawful, gatesAfter, ih, Bool.and_assoc]

end

/-- Between the two states the pins move in a lawful order, from the gates of the one to those of the other. -/
structure State.Orderly (s t : State) : Prop where
  wave : ∃ w, t.pins.wave = s.pins.wave ++ w ∧ waveLawful s.pins.picture s.pins.descramble w = true ∧
    gatesAfter s.pins.picture s.pins.descramble w = (t.pins.picture, t.pins.descramble)

section
variable {s t u : State}

theorem State.Orderly.of_pins (h : t.pins = s.pins := by rfl) : s.Orderly t := by
  refine ⟨[], ?_, rfl, ?_⟩ <;> rw [h]
  · exact (List.append_nil _).symm
  · rfl

theorem State.Orderly.trans (h : s.Orderly t) (k : t.Orderly u) : s.Orderly u := by
  obtain ⟨a, ha, hlawful, hgates⟩ := h.wave
  obtain ⟨b, hb, hlawful', hgates'⟩ := k.wave
  refine ⟨a ++ b, by rw [hb, ha, List.append_assoc], ?_, ?_⟩
  · rw [waveLawful_append, hlawful, hgates, hlawful']
    rfl
  · rw [gatesAfter_append, hgates, hgates']

/-- A record of the pins that is lawful stays so. -/
theorem State.Orderly.pinLaw (h : s.Orderly t) (k : s.PinLaw) : t.PinLaw := by
  obtain ⟨w, hw, hlawful, hgates⟩ := h.wave
  obtain ⟨klawful, kgates⟩ := k
  rw [State.PinLaw, hw, waveLawful_append, gatesAfter_append, kgates]
  exact ⟨by rw [klawful, hlawful]; rfl, hgates⟩

end

/-! ### The pin operations -/

section
variable {s : State} {o : OutputId}

theorem State.drivePicture_orderly {b : Bool} (h : b = true ∨ s.pins.descramble[o] = false) :
    s.Orderly (s.drivePicture o b) := by
  unfold State.drivePicture
  split_ifs
  · exact .of_pins
  · refine ⟨[.picture o b], rfl, ?_, rfl⟩
    rcases h with rfl | h
    · rfl
    · simp only [waveLawful, h, Bool.not_false, Bool.or_true, Bool.and_true]

theorem State.driveDescramble_orderly {b : Bool} (h : b = false ∨ s.pins.picture[o] = true) :
    s.Orderly (s.driveDescramble o b) := by
  unfold State.driveDescramble
  split_ifs
  · exact .of_pins
  · refine ⟨[.descramble o b], rfl, ?_, rfl⟩
    rcases h with rfl | h
    · rfl
    · simp only [waveLawful, h, Bool.or_true, Bool.and_true]

theorem State.drivePicture_same (b : Bool) : (s.drivePicture o b).pins.picture[o] = b := by
  rw [(s.drivePicture_gates o b).1]
  exact Vector.getElem_set_self _

theorem State.driveDescramble_same (b : Bool) : (s.driveDescramble o b).pins.descramble[o] = b := by
  rw [(s.driveDescramble_gates o b).1]
  exact Vector.getElem_set_self _

/-- The picture goes off after the descrambler, and on before it (R156). -/
theorem State.driveGates_orderly {p d : Bool} (h : d = true → p = true) : s.Orderly (s.driveGates o p d) := by
  unfold State.driveGates
  split_ifs with hd
  · obtain rfl := h hd
    exact (State.drivePicture_orderly (.inl rfl)).trans
      (State.driveDescramble_orderly (.inr (State.drivePicture_same true)))
  · exact (State.driveDescramble_orderly (.inl rfl)).trans
      (State.drivePicture_orderly (.inr (State.driveDescramble_same false)))

theorem State.gatesOff_orderly (o : OutputId) (s : State) : s.Orderly (s.gatesOff o) :=
  (State.driveDescramble_orderly (.inl rfl)).trans
    (State.drivePicture_orderly (.inr (State.driveDescramble_same false)))

theorem State.gatesOff_gates (o : OutputId) (s : State) :
    (s.gatesOff o).pins.picture[o] = false ∧ (s.gatesOff o).pins.descramble[o] = false := by
  refine ⟨State.drivePicture_same false, ?_⟩
  rw [State.gatesOff, (State.drivePicture_gates o false _).2]
  exact State.driveDescramble_same false

theorem State.loadRoute_orderly (o : OutputId) (r : Option Route) (s : State) : s.Orderly (s.loadRoute o r) := by
  obtain ⟨hpicture, hdescramble⟩ := s.gatesOff_gates o
  refine (s.gatesOff_orderly o).trans ⟨[.route o (routeWord r)], rfl, ?_, rfl⟩
  simp only [waveLawful, hpicture, hdescramble]
  rfl

theorem State.loadRoutes_orderly (old s : State) : s.Orderly (State.loadRoutes old s) := by
  refine foldl_related (fun _ => .of_pins) .trans (fun a p => ?_) allOutputs s
  split_ifs
  · exact .of_pins
  · exact a.loadRoute_orderly p _

theorem State.darken_orderly (s : State) : s.Orderly s.darken :=
  foldl_related (fun _ => .of_pins) .trans (fun a p => a.loadRoute_orderly p none) allOutputs s

theorem State.Rewires.orderly {t : State} (h : s.Rewires t) : s.Orderly t := by
  obtain ⟨w, hw, hdivisors⟩ := h.pins
  have hsilent (p d : Vector Bool 4) : waveLawful p d w = true ∧ gatesAfter p d w = (p, d) := by
    clear hw
    induction w with
    | nil => exact ⟨rfl, rfl⟩
    | cons e w ih =>
      obtain ⟨u, n, rfl⟩ := hdivisors e (List.mem_cons_self ..)
      exact ih fun e he => hdivisors e (List.mem_cons_of_mem _ he)
  obtain ⟨hlawful, hgates⟩ := hsilent s.pins.picture s.pins.descramble
  refine ⟨w, ?_, hlawful, ?_⟩ <;> rw [hw]
  exact hgates

/-! ### The close of an event -/

theorem State.decisionRecord_gates (s : State) (o : OutputId) :
    (s.decisionRecord o).descramble = true → (s.decisionRecord o).picture = true :=
  fun h => ((Bool.and_eq_true ..).mp h).1

theorem State.endStalePass_pins (o : OutputId) (s : State) : (s.endStalePass o).pins = s.pins := by
  unfold State.endStalePass
  split_ifs <;> rfl

theorem State.recordDecision_pins (r : DecisionRecord) :
    (s.recordDecision o r).pins = (({ s with ae := s.ae.set o r } : State).driveGates o r.picture r.descramble).pins := by
  unfold State.recordDecision
  dsimp only
  split_ifs <;> rfl

theorem State.recordDecision_orderly {r : DecisionRecord} (h : r.descramble = true → r.picture = true) :
    s.Orderly (s.recordDecision o r) :=
  .trans (t := { s with ae := s.ae.set o r }) .of_pins
    ((State.driveGates_orderly h).trans (.of_pins (State.recordDecision_pins r)))

theorem State.evaluate_orderly (o : OutputId) (s : State) : s.Orderly (s.evaluate o) :=
  .trans (.of_pins (s.endStalePass_pins o)) (State.recordDecision_orderly (State.decisionRecord_gates _ o))

theorem State.evaluateAll_orderly (os : List OutputId) (s : State) : s.Orderly (s.evaluateAll os) := by
  refine foldl_related (fun _ => .of_pins) .trans (fun a p => ?_) allOutputs s
  split_ifs
  · exact a.evaluate_orderly p
  · exact .of_pins

theorem State.report_orderly (os : List OutputId) (s : State) : s.Orderly (s.report os) := by
  have hpins : (s.report os).pins = (s.evaluateAll os).pins := by simp [State.report]
  exact (s.evaluateAll_orderly os).trans (.of_pins hpins)

theorem State.cutReply_orderly (s : State) : s.Orderly s.cutReply := by
  unfold State.cutReply
  split
  · exact .of_pins
  · exact ⟨[_], rfl, rfl, rfl⟩

theorem State.assertReset_orderly (s : State) : s.Orderly s.assertReset :=
  (s.cutReply_orderly.trans .of_pins).trans (State.darken_orderly _)

end

/-! ### OUTPUT_STATE (R162) -/

theorem Decision.sameButMinutes_iff {a b : Decision} : a.sameButMinutes b ↔ a.withoutMinutes = b.withoutMinutes := by
  cases a <;> cases b <;> simp [Decision.sameButMinutes, Decision.withoutMinutes]

theorem DecisionRecord.notable_iff {a b : DecisionRecord} : a.notable b = true ↔ ¬a.SameToTheHost b := by
  simp only [DecisionRecord.notable, DecisionRecord.SameToTheHost, Decision.sameButMinutes_iff, Bool.or_eq_true,
    bne_iff_ne, ne_eq, not_and_or, or_assoc]

/-- An output's record and its OUTPUT_STATE latch go together: the latch is set where a field of R162 changes. -/
structure State.Latches (o : OutputId) (s t : State) : Prop where
  iff : t.cl.isSet (.outputState o) = true ↔ s.cl.isSet (.outputState o) = true ∨ ¬s.ae[o].SameToTheHost t.ae[o]

theorem DecisionRecord.SameToTheHost.refl (a : DecisionRecord) : a.SameToTheHost a :=
  ⟨Decision.sameButMinutes_iff.2 rfl, rfl, rfl⟩

theorem State.Latches.of_same {s t : State} {o : OutputId} (hae : t.ae[o] = s.ae[o])
    (hset : t.cl.isSet (.outputState o) = s.cl.isSet (.outputState o)) : s.Latches o t := by
  refine ⟨?_⟩
  rw [hae, hset]
  exact (or_iff_left fun h => h (.refl _)).symm

theorem State.recordDecision_latches (o p : OutputId) (r : DecisionRecord) (s : State) :
    s.Latches p (s.recordDecision o r) := by
  have hae := (s.recordDecision_record o r).1
  have hcl : (({ s with ae := s.ae.set o r } : State).driveGates o r.picture r.descramble).cl = s.cl := by
    rw [(State.driveGates_pinsOnly o _ _ _).rest]
  have hset (n : Notice) : (s.recordDecision o r).cl.isSet n =
      ((s.ae[o].notable r && decide (n = .outputState o)) || s.cl.isSet n) := by
    rw [State.recordDecision]
    split_ifs with h
    · rw [State.latch_cl, hcl, ControlLink.isSet_setLatch, h, Bool.true_and]
    · rw [hcl, Bool.eq_false_iff.2 h]
      rfl
  by_cases hp : p = o
  · subst hp
    refine ⟨?_⟩
    have hae' : (s.ae.set p r)[p] = r := Vector.getElem_set_self _
    rw [hset, hae, hae', ← DecisionRecord.notable_iff]
    simp [or_comm]
  · refine .of_same ?_ ?_
    · have hp' : o.val ≠ p.val := fun h => hp (Fin.ext h.symm)
      rw [hae]
      exact Vector.getElem_set_ne _ _ hp'
    · simp [hset, hp]

theorem State.evaluate_latches (o p : OutputId) (s : State) : s.Latches p (s.evaluate o) := by
  have hkept : (s.endStalePass o).ae = s.ae ∧ (s.endStalePass o).cl = s.cl := by
    unfold State.endStalePass
    split_ifs <;> exact ⟨rfl, rfl⟩
  obtain ⟨hae, hcl⟩ := hkept
  obtain ⟨h⟩ := (s.endStalePass o).recordDecision_latches o p ((s.endStalePass o).decisionRecord o)
  rw [hae, hcl] at h
  exact ⟨h⟩

theorem State.evaluate_other {o p : OutputId} (s : State) (hp : p ≠ o) :
    (s.evaluate o).ae[p] = s.ae[p] ∧ (s.evaluate o).cl.isSet (.outputState p) = s.cl.isSet (.outputState p) := by
  obtain ⟨hae, -⟩ := (s.evaluate_decides o).2.2.2 p hp
  obtain ⟨h⟩ := s.evaluate_latches o p
  rw [hae, or_iff_left fun h => h (.refl _)] at h
  exact ⟨hae, Bool.eq_iff_iff.2 h⟩

/-- An event evaluates each output once (R158). -/
theorem State.evaluateAll_latches (os : List OutputId) (p : OutputId) (s : State) : s.Latches p (s.evaluateAll os) := by
  have once : ∀ (l : List OutputId) (a : State), l.Nodup →
      a.Latches p (l.foldl (fun acc o => if os.contains o then acc.evaluate o else acc) a) ∧
        (p ∉ l → (l.foldl (fun acc o => if os.contains o then acc.evaluate o else acc) a).ae[p] = a.ae[p] ∧
          (l.foldl (fun acc o => if os.contains o then acc.evaluate o else acc) a).cl.isSet (.outputState p) =
            a.cl.isSet (.outputState p)) := by
    intro l
    induction l with
    | nil => exact fun a _ => ⟨.of_same rfl rfl, fun _ => ⟨rfl, rfl⟩⟩
    | cons o l ih =>
      intro a nodup
      obtain ⟨hno, nodup⟩ := List.nodup_cons.1 nodup
      rw [List.foldl_cons]
      obtain ⟨⟨hlatch⟩, hrest⟩ := ih (if os.contains o then a.evaluate o else a) nodup
      by_cases hp : p = o
      · obtain ⟨hae, hset⟩ := hrest (hp ▸ hno)
        refine ⟨⟨?_⟩, fun hmem => absurd (hp ▸ List.mem_cons_self ..) hmem⟩
        rw [hae, hset]
        split_ifs
        · exact (a.evaluate_latches o p).iff
        · exact (State.Latches.of_same rfl rfl).iff
      · have hstep : (if os.contains o then a.evaluate o else a).ae[p] = a.ae[p] ∧
            (if os.contains o then a.evaluate o else a).cl.isSet (.outputState p) =
              a.cl.isSet (.outputState p) := by
          split_ifs
          · exact a.evaluate_other hp
          · exact ⟨rfl, rfl⟩
        obtain ⟨hae, hset⟩ := hstep
        rw [hae, hset] at hlatch hrest
        exact ⟨⟨hlatch⟩, fun hmem => hrest fun h => hmem (List.mem_cons_of_mem _ h)⟩
  exact (once allOutputs s (by decide)).1

theorem State.report_latches (os : List OutputId) (p : OutputId) (s : State) : s.Latches p (s.report os) := by
  obtain ⟨h⟩ := s.evaluateAll_latches os p
  have hwrite := (s.evaluateAll os).startWrite_rest
  refine ⟨?_⟩
  rw [State.report, hwrite]
  exact h

end Sys2Proof.Machine

/-! PROOF. What a decision reads (R148 to R155), and when the close of an event leaves every decision current. -/

namespace Sys2Proof.Machine

/-! ### What a decision reads -/

theorem Profile.test_untitled (p : Profile) (ch : Nat) (m : Option Nat) (cur : Option GuideEvent) :
    p.test ch m (cur.map GuideEvent.untitled) = p.test ch m cur := by
  cases cur <;> rfl

theorem Pass.covers_untitled (q : Pass) (ch : Nat) (cur : Option GuideEvent) :
    q.covers ch (cur.map GuideEvent.untitled) = q.covers ch cur := by
  cases q <;> cases cur <;> rfl

theorem GuideEvent.fields_of_untitled {a b : GuideEvent} (h : a.untitled = b.untitled) :
    a.eventId = b.eventId ∧ a.start = b.start ∧ a.price = b.price ∧ a.preview = b.preview := by
  simp only [GuideEvent.untitled, GuideEvent.mk.injEq] at h
  obtain ⟨-, hid, hstart, -, -, -, hprice, hpreview, -⟩ := h
  exact ⟨hid, hstart, hprice, hpreview⟩

/-- The day and the minute of day: all that a decision reads of the clock. -/
def WallClock.view (c : WallClock) : Nat × Nat := (c.day, c.minuteOfDay)

/-- What the evaluation of an output reads is the same in both states. -/
structure State.SameView (s t : State) (o : OutputId) : Prop where
  ou : t.ou[o] = s.ou[o] := by rfl
  committed : t.cm.committed = s.cm.committed := by rfl
  tuner : ∀ u sl, s.ou[o].attachment = .tuner u sl → t.tp.tuners[u].state = s.tp.tuners[u].state := by exact fun _ _ _ => rfl
  ent : t.ep.ent = s.ep.ent := by rfl
  clock : t.tb.clock.map WallClock.view = s.tb.clock.map WallClock.view := by rfl
  current : (t.currentOf o).map GuideEvent.untitled = (s.currentOf o).map GuideEvent.untitled := by rfl
  bought : ∀ ch id, s.ou[o].channel = some ch →
    (t.ep.recordFor ch id).map Purchase.state = (s.ep.recordFor ch id).map Purchase.state := by exact fun _ _ _ => rfl
  pinState : t.pinState = s.pinState := by rfl
  profile : t.boundProfile o = s.boundProfile o := by rfl
  pass : t.pc.passes[o] = s.pc.passes[o] ∨ (s.pinState = .unset ∧ t.pc.passes[o] = none) := by exact .inl rfl

section
variable {s t : State} {o : OutputId}

theorem State.now_eq_view (s : State) :
    s.now = (s.tb.clock.map WallClock.view).map fun v => v.1 * Config.dayMinutes + v.2 := by
  simp only [State.now, Option.map_map]
  rfl

theorem State.minuteOfDay_eq_view (s : State) : s.minuteOfDay = (s.tb.clock.map WallClock.view).map Prod.snd := by
  simp only [State.minuteOfDay, Option.map_map]
  rfl

theorem State.currentOf_of_channel {ch : Nat} (h : s.ou[o].channel = some ch) : s.currentOf o = s.current ch := by
  simp only [State.currentOf, h]

theorem TierRecord.effective_view {r : TierRecord} {a b : Option WallClock}
    (h : a.map WallClock.view = b.map WallClock.view) : r.effective a = r.effective b := by
  cases a <;> cases b <;> simp_all [TierRecord.effective, WallClock.view]

/-- A pay decision reads all but the title of the current programme, and the state of the purchase. -/
theorem State.decidePay_congr {ch : Nat} (hnow : t.now = s.now)
    (hcur : (t.current ch).map GuideEvent.untitled = (s.current ch).map GuideEvent.untitled)
    (hbought : ∀ id, (t.ep.recordFor ch id).map Purchase.state = (s.ep.recordFor ch id).map Purchase.state) :
    t.decidePay ch = s.decidePay ch := by
  unfold State.decidePay
  rw [hnow]
  cases s.now with
  | none => rfl
  | some n =>
    cases ht : t.current ch <;> cases hs : s.current ch <;> rw [ht, hs] at hcur
    case some.none.some => cases hcur
    case some.some.none => cases hcur
    case some.some.some a b =>
      have hab : a.untitled = b.untitled := Option.some.inj hcur
      obtain ⟨hid, hstart, hprice, hpreview⟩ := GuideEvent.fields_of_untitled hab
      dsimp only
      rw [hprice, hid, hstart, hpreview, hbought]

theorem State.SameView.decideAttached (h : s.SameView t o) {ch : Nat} {u : TunerId} {sl : ServiceSlot}
    (hch : s.ou[o].channel = some ch) (hatt : s.ou[o].attachment = .tuner u sl) :
    t.decideAttached o ch u = s.decideAttached o ch u := by
  have hcur : (t.current ch).map GuideEvent.untitled = (s.current ch).map GuideEvent.untitled := by
    rw [← State.currentOf_of_channel hch, ← State.currentOf_of_channel (s := t) (o := o) (by rw [h.ou]; exact hch)]
    exact h.current
  have hnow : t.now = s.now := by rw [t.now_eq_view, s.now_eq_view, h.clock]
  have htest : t.parentalTest o ch = s.parentalTest o ch := by
    unfold State.parentalTest
    rw [h.pinState]
    rcases h.pass with hpass | ⟨hunset, -⟩
    · rw [h.profile, hpass, t.minuteOfDay_eq_view, s.minuteOfDay_eq_view, h.clock,
        ← Profile.test_untitled _ _ _ (t.current ch), ← Profile.test_untitled _ _ _ (s.current ch), hcur]
      simp only [← Pass.covers_untitled _ _ (t.current ch), ← Pass.covers_untitled _ _ (s.current ch), hcur]
    · simp only [hunset]
  have hentitled (e : MapEntry) (he : e.channel = ch) : t.decideEntitled e = s.decideEntitled e := by
    unfold State.decideEntitled
    cases e.access with
    | free => rfl
    | tier k =>
      have hk : t.tierEffective k = s.tierEffective k := by
        rw [State.tierEffective, State.tierEffective, h.ent, TierRecord.effective_view h.clock]
      dsimp only
      rw [hk]
    | pay =>
      rw [he]
      exact State.decidePay_congr hnow hcur fun id => h.bought ch id hch
  unfold State.decideAttached
  rw [h.ent, h.tuner u sl hatt, h.committed, htest]
  cases hres : s.cm.committed.resolve ch with
  | none => rfl
  | some e => simp only [hentitled e (Lineup.mem_of_resolve hres).2]

/-- States that look the same to an output give it the same record. -/
theorem State.SameView.decisionRecord (h : s.SameView t o) : t.decisionRecord o = s.decisionRecord o := by
  have hdecide : t.decideOutput o = s.decideOutput o := by
    unfold State.decideOutput
    rw [h.ou]
    cases s.ou[o].mode with
    | standby => rfl
    | active =>
      cases hch : s.ou[o].channel with
      | none => rfl
      | some ch =>
        cases hatt : s.ou[o].attachment with
        | tuner u sl => exact h.decideAttached hch hatt
        | waiting => rfl
        | none => rfl
  have hid : (t.currentOf o).map GuideEvent.eventId = (s.currentOf o).map GuideEvent.eventId := by
    have h' := congrArg (Option.map GuideEvent.eventId) h.current
    rw [Option.map_map, Option.map_map] at h'
    exact h'
  have hentry : t.entryOf o = s.entryOf o := by simp only [State.entryOf, h.ou, h.committed]
  unfold State.decisionRecord
  rw [hdecide, hid, State.isActive, State.isActive, State.route, State.route, State.scrambled, State.scrambled, hentry,
    h.ou]

/-- The record of an output in standby reads its own fields alone (R149). -/
theorem State.decisionRecord_standby (h : s.ou[o].mode = .standby) : s.decisionRecord o = {
    decision := .off, eventId := none, pass := none, channel := s.ou[o].channel, route := s.route o,
    picture := false, descramble := false } := by
  have hdecide : s.decideOutput o = (.off, none) := by simp only [State.decideOutput, h]
  have hidle : s.isActive o = false := by rw [State.isActive, h]; rfl
  unfold State.decisionRecord
  rw [hdecide, hidle]
  rfl

/-! ### The passes (R137, R138) -/

/-- A pass that an output holds is of its channel; a CHANNEL pass has minutes left. -/
def State.PassFormed (s : State) (o : OutputId) : Prop :=
  ∀ q, s.pc.passes[o] = some q → s.ou[o].mode = .active ∧ ∃ ch, s.ou[o].channel = some ch ∧
    ((∃ left, q = .channel ch left ∧ 1 ≤ left ∧ left ≤ 240) ∨ ∃ id, q = .event ch id)

theorem State.passLawful_iff : s.passLawful o = true ↔ s.PassFormed o ∧ ¬s.PassDiffers o := by
  unfold State.passLawful State.PassFormed State.PassDiffers
  cases hq : s.pc.passes[o] with
  | none => simp
  | some q =>
    cases hm : s.ou[o].mode with
    | standby => cases q <;> simp
    | active =>
      cases hch : s.ou[o].channel with
      | none => cases q <;> simp
      | some ch =>
        cases q with
        | channel service left =>
          simp only [Bool.and_eq_true, beq_iff_eq, decide_eq_true_eq]
          constructor
          · rintro ⟨rfl, hleft⟩
            exact ⟨fun q hq => ⟨trivial, _, rfl, .inl ⟨left, (Option.some.inj hq).symm, hleft⟩⟩, by rintro ⟨_, _, ⟨⟩, _⟩⟩
          · rintro ⟨hformed, -⟩
            obtain ⟨-, _, ⟨⟩, ⟨_, ⟨⟩, hleft⟩ | ⟨_, ⟨⟩⟩⟩ := hformed _ rfl
            exact ⟨rfl, hleft⟩
        | event service id =>
          rw [State.currentOf_of_channel hch]
          simp only [Bool.and_eq_true, beq_iff_eq, Option.any_eq_true]
          constructor
          · rintro ⟨rfl, e, he, hid⟩
            refine ⟨fun q hq => ⟨trivial, _, rfl, .inr ⟨id, (Option.some.inj hq).symm⟩⟩, ?_⟩
            rintro ⟨_, _, ⟨⟩, hdiffers⟩
            exact hdiffers e he hid
          · rintro ⟨hformed, hsame⟩
            obtain ⟨-, _, ⟨⟩, ⟨_, ⟨⟩, -⟩ | ⟨_, ⟨⟩⟩⟩ := hformed _ rfl
            refine ⟨rfl, ?_⟩
            by_contra hno
            exact hsame ⟨_, _, rfl, fun e he hid => hno ⟨e, he, hid⟩⟩

theorem State.SameView.passDiffers (h : s.SameView t o) (hd : t.PassDiffers o) : s.PassDiffers o := by
  obtain ⟨service, id, hpass, hdiffers⟩ := hd
  have hsame : t.pc.passes[o] = s.pc.passes[o] := h.pass.resolve_right fun hnone => by
    rw [hnone.2] at hpass
    cases hpass
  refine ⟨service, id, hsame ▸ hpass, fun e he => ?_⟩
  have hcur := h.current
  rw [he] at hcur
  obtain ⟨e', he', huntitled⟩ := Option.map_eq_some_iff.1 hcur
  have hid := (GuideEvent.fields_of_untitled huntitled).1
  rw [← hid]
  exact hdiffers e' he'

end

/-! ### Ready for its close -/

/-- An output that no evaluation need look at: its gates stand, and it is in standby as it was, or nothing that its
decision reads has changed. -/
structure State.Unmoved (s t : State) (o : OutputId) : Prop where
  picture : t.pins.picture[o] = s.pins.picture[o]
  descramble : t.pins.descramble[o] = s.pins.descramble[o]
  view : (s.ou[o].mode = .standby ∧ t.ou[o] = s.ou[o]) ∨ s.SameView t o

/-- After the changes of an event, the evaluation of `os` makes every decision current. -/
structure State.Ready (s t : State) (os : List OutputId) : Prop where
  time : t.TimeLaw
  loading : t.phase = .loading → s.phase = .loading ∧ t.ou = s.ou
  alive : t.phase = .loading ∨ t.phase = .running → s.phase = .loading ∨ s.phase = .running
  formed : ∀ o, t.PassFormed o
  unmoved : ∀ o, o ∉ os → s.Unmoved t o

/-- The states agree in all but the feed, the requests and the store. -/
structure State.Agrees (s t : State) : Prop where
  phase : t.phase = s.phase := by rfl
  tb : t.tb = s.tb := by rfl
  cm : t.cm = s.cm := by rfl
  tp : t.tp = s.tp := by rfl
  ou : t.ou = s.ou := by rfl
  pg : t.pg = s.pg := by rfl
  ep : t.ep = s.ep := by rfl
  pc : t.pc = s.pc := by rfl
  ae : t.ae = s.ae := by rfl
  pins : t.pins = s.pins := by rfl
  latches : t.cl.latches = s.cl.latches := by rfl

section
variable {s t x : State} {o : OutputId} {os : List OutputId}

theorem State.Agrees.decisionRecord (h : s.Agrees t) : t.decisionRecord o = s.decisionRecord o := by
  refine State.decisionRecord_congr h.tb h.cm h.tp h.ou h.pg h.ep ?_ ?_ <;> rw [h.pc]

theorem State.Agrees.decisionLaw (h : s.Agrees t) (k : s.DecisionLaw) : t.DecisionLaw := by
  obtain ⟨htime, hloading, hpasses, hdecided⟩ := k
  refine ⟨?_, ?_, fun o => ?_, fun hphase o => ?_⟩
  · rw [State.TimeLaw, h.tb]
    exact htime
  · rw [h.phase, h.ou]
    exact hloading
  · have hlawful := hpasses o
    unfold State.passLawful State.current State.now at hlawful ⊢
    rw [h.pc, h.ou, h.tb, h.pg]
    exact hlawful
  · rw [h.phase] at hphase
    rw [h.decisionRecord, h.ae, h.pins]
    exact hdecided hphase o

theorem State.Alike.timeLaw (h : s.Alike t) (k : s.TimeLaw) : t.TimeLaw := by
  rw [State.TimeLaw, h.tb]
  exact k

/-- An unmoved output keeps its record as the decision for the state. -/
theorem State.Unmoved.decided (h : s.Unmoved t o) (hae : t.ae = s.ae) (k : s.Decided o) : t.Decided o := by
  obtain ⟨hrecord, hpicture, hdescramble⟩ := k
  have hdecision : t.decisionRecord o = s.decisionRecord o := by
    rcases h.view with ⟨hm, hou⟩ | hview
    · rw [State.decisionRecord_standby hm, State.decisionRecord_standby (by rw [hou]; exact hm), State.route,
        State.route, hou]
    · exact hview.decisionRecord
  rw [State.Decided, hdecision, hae, h.picture, h.descramble]
  exact ⟨hrecord, hpicture, hdescramble⟩

/-- The close of an event for which the state is ready leaves every decision current (R148, R158). -/
theorem State.Ready.decisionLaw (h : s.Ready x os) (hae : x.ae = s.ae) (k : s.DecisionLaw) :
    (x.report os).DecisionLaw := by
  obtain ⟨-, hloading, hpasses, hdecided⟩ := k
  have halike := (x.report_closes os).alike
  refine ⟨halike.timeLaw h.time, fun hphase o => ?_, fun o => ?_, fun hphase o => ?_⟩
  · rw [halike.phase] at hphase
    obtain ⟨hs, hou⟩ := h.loading hphase
    rw [halike.ou, hou]
    exact hloading hs o
  · rw [State.passLawful_iff]
    have hpasses' : (x.report os).pc.passes[o] = x.pc.passes[o] ∨ (x.report os).pc.passes[o] = none :=
      ((x.report_closes os).2.1 o).imp_right And.left
    refine ⟨fun q hq => ?_, fun hdiffers => ?_⟩
    · rw [halike.ou]
      rcases hpasses' with hkept | hgone
      · exact h.formed o q (hkept ▸ hq)
      · rw [hgone] at hq
        cases hq
    · obtain ⟨service, id, hq, -⟩ := id hdiffers
      have hkept : (x.report os).pc.passes[o] = x.pc.passes[o] :=
        hpasses'.resolve_right fun hgone => by rw [hgone] at hq; cases hq
      have hactive : x.ou[o].mode = .active := (h.formed o _ (hkept ▸ hq)).1
      by_cases hmem : o ∈ os
      · exact (x.report_evaluated os o hmem).2 (by rw [halike.ou]; exact hactive) hdiffers
      · rcases (h.unmoved o hmem).view with ⟨hm, hou⟩ | hview
        · rw [hou, hm] at hactive
          cases hactive
        · exact (State.passLawful_iff.1 (hpasses o)).2
            (hview.passDiffers (hdiffers.congr hkept (halike.currentOf o)))
  · rw [halike.phase] at hphase
    refine State.report_decides os x o (or_iff_not_imp_left.2 fun hno => ?_)
    exact (h.unmoved o hno).decided hae (hdecided (h.alive hphase) o)

end

end Sys2Proof.Machine

/-! PROOF. The changes of an event and its close, as one: what the pins, the latches, the decisions and the passes
keep across every command. -/

namespace Sys2Proof.Machine

/-! ### Route words (R56, R57) -/

section
variable {old s : State} {o : OutputId}

theorem State.loadRoute_gates_other {p : OutputId} (h : o ≠ p) (r : Option Route) (s : State) :
    (s.loadRoute p r).pins.picture[o] = s.pins.picture[o] ∧ (s.loadRoute p r).pins.descramble[o] = s.pins.descramble[o] := by
  obtain ⟨hpicture, hdescramble⟩ := s.loadRoute_gates p r
  have hne : p.val ≠ o.val := fun e => h (Fin.ext e.symm)
  rw [hpicture, hdescramble]
  exact ⟨Vector.getElem_set_ne p.isLt o.isLt hne, Vector.getElem_set_ne p.isLt o.isLt hne⟩

theorem State.loadRoutes_gates (h : old.route o = s.route o) :
    (State.loadRoutes old s).pins.picture[o] = s.pins.picture[o] ∧
      (State.loadRoutes old s).pins.descramble[o] = s.pins.descramble[o] := by
  refine foldl_related (R := fun a b : State => b.pins.picture[o] = a.pins.picture[o] ∧
    b.pins.descramble[o] = a.pins.descramble[o]) (fun _ => ⟨rfl, rfl⟩)
    (fun h k => ⟨k.1.trans h.1, k.2.trans h.2⟩) (fun a p => ?_) allOutputs s
  split_ifs with hp
  · exact ⟨rfl, rfl⟩
  · exact a.loadRoute_gates_other (fun hop => hp (by rw [← hop]; exact h)) _

/-- An output not touched has its record, and its tuner the state, as before. -/
theorem State.of_not_touched (h : o ∉ State.touched old s) : s.ou[o] = old.ou[o] ∧
    ∀ u sl, s.ou[o].attachment = .tuner u sl → s.tp.tuners[u].state = old.tp.tuners[u].state := by
  rw [State.touched, List.mem_filter, not_and] at h
  have hno := h (State.mem_allOutputs o)
  rw [Bool.or_eq_true, not_or, bne_iff_ne, not_not] at hno
  obtain ⟨hou, hstate⟩ := hno
  refine ⟨hou, fun u sl hatt => ?_⟩
  rw [hatt] at hstate
  simpa using hstate

end

/-! ### The changes of an event -/

/-- The latches a command sets: none goes out but by TAKE, and OUTPUT_STATE is left to the evaluations. -/
structure State.KeepsLatches (s t : State) : Prop where
  kept : ∀ n, s.cl.isSet n = true → t.cl.isSet n = true
  output : ∀ o : OutputId, t.cl.isSet (.outputState o) = s.cl.isSet (.outputState o)

/-- The changes of a command before its close on `os`. -/
structure State.Prepares (c : Instr) (s t : State) (os : List OutputId) : Prop where
  orderly : s.Orderly t
  ae : t.ae = s.ae
  latches : c ≠ .take → s.KeepsLatches t
  ready : s.DecisionLaw → s.Ready t os

section
variable {c : Instr} {s t x : State} {o : OutputId} {os : List OutputId} {n : Notice}

theorem State.KeepsLatches.of_eq (h : t.cl.latches = s.cl.latches := by rfl) : s.KeepsLatches t := by
  have hset (n : Notice) : t.cl.isSet n = s.cl.isSet n := by rw [ControlLink.isSet, ControlLink.isSet, h]
  exact ⟨fun n hn => (hset n).trans hn, fun o => hset _⟩

theorem State.KeepsLatches.latch (h : s.KeepsLatches t) (hn : ∀ o, n ≠ .outputState o) : s.KeepsLatches (t.latch n) := by
  refine ⟨fun m hm => ?_, fun o => ?_⟩
  · simp [ControlLink.isSet_setLatch, h.kept m hm]
  · simp [ControlLink.isSet_setLatch, h.output o, (hn o).symm]

theorem State.SameView.trans (h : s.SameView t o) (k : t.SameView x o) : s.SameView x o where
  ou := k.ou.trans h.ou
  committed := k.committed.trans h.committed
  tuner u sl hatt := (k.tuner u sl (by rw [h.ou]; exact hatt)).trans (h.tuner u sl hatt)
  ent := k.ent.trans h.ent
  clock := k.clock.trans h.clock
  current := k.current.trans h.current
  bought ch id hch := (k.bought ch id (by rw [h.ou]; exact hch)).trans (h.bought ch id hch)
  pinState := k.pinState.trans h.pinState
  profile := k.profile.trans h.profile
  pass := by
    rcases k.pass with kpass | ⟨kunset, knone⟩
    · rw [kpass]
      exact h.pass
    · exact .inr ⟨h.pinState ▸ kunset, knone⟩

theorem State.Agrees.sameView (h : s.Agrees t) : s.SameView t o where
  ou := by rw [h.ou]
  committed := by rw [h.cm]
  tuner _ _ _ := by rw [h.tp]
  ent := by rw [h.ep]
  clock := by rw [h.tb]
  current := by simp only [State.currentOf, State.current, State.now, h.ou, h.pg, h.tb]
  bought _ _ _ := by rw [h.ep]
  pinState := by rw [State.pinState, State.pinState, h.pc]
  profile := congrArg (fun p : Parental => p.profiles[p.bindings[o]]) h.pc
  pass := .inl (by rw [h.pc])

theorem State.Agrees.unmoved (h : s.Agrees t) : s.Unmoved t o :=
  ⟨by rw [h.pins], by rw [h.pins], .inr h.sameView⟩

theorem State.Agrees.passFormed (h : s.Agrees t) (k : s.PassFormed o) : t.PassFormed o := by
  rw [State.PassFormed, h.pc, h.ou]
  exact k

theorem State.Agrees.refl (s : State) : s.Agrees s := {}

theorem State.Agrees.symm (h : s.Agrees t) : t.Agrees s :=
  ⟨h.phase.symm, h.tb.symm, h.cm.symm, h.tp.symm, h.ou.symm, h.pg.symm, h.ep.symm, h.pc.symm, h.ae.symm, h.pins.symm,
    h.latches.symm⟩

theorem State.Agrees.trans (h : s.Agrees t) (k : t.Agrees x) : s.Agrees x :=
  ⟨k.phase.trans h.phase, k.tb.trans h.tb, k.cm.trans h.cm, k.tp.trans h.tp, k.ou.trans h.ou, k.pg.trans h.pg,
    k.ep.trans h.ep, k.pc.trans h.pc, k.ae.trans h.ae, k.pins.trans h.pins, k.latches.trans h.latches⟩

theorem State.Unmoved.trans (h : s.Unmoved t o) (k : t.Unmoved x o) : s.Unmoved x o := by
  refine ⟨k.picture.trans h.picture, k.descramble.trans h.descramble, ?_⟩
  rcases h.view with ⟨hm, hou⟩ | hview
  · rcases k.view with ⟨-, kou⟩ | kview
    · exact .inl ⟨hm, kou.trans hou⟩
    · exact .inl ⟨hm, kview.ou.trans hou⟩
  · rcases k.view with ⟨km, kou⟩ | kview
    · rw [hview.ou] at km kou
      exact .inl ⟨km, kou⟩
    · exact .inr (hview.trans kview)

/-- Changes that agree before and after those of an event count with them. -/
theorem State.Prepares.agrees (h : State.Prepares c s t os) (k : t.Agrees x) : State.Prepares c s x os where
  orderly := h.orderly.trans (.of_pins k.pins)
  ae := k.ae.trans h.ae
  latches hc := by
    obtain ⟨hkept, houtput⟩ := h.latches hc
    obtain ⟨kkept, koutput⟩ := State.KeepsLatches.of_eq k.latches
    exact ⟨fun n hn => kkept n (hkept n hn), fun o => (koutput o).trans (houtput o)⟩
  ready hlaw := by
    obtain ⟨htime, hloading, halive, hformed, hunmoved⟩ := h.ready hlaw
    refine ⟨by rw [State.TimeLaw, k.tb]; exact htime, fun hphase => ?_, fun hphase => ?_,
      fun o => k.passFormed (hformed o), fun o ho => (hunmoved o ho).trans k.unmoved⟩
    · rw [k.ou]
      exact hloading (k.phase ▸ hphase)
    · exact halive (k.phase ▸ hphase)

theorem State.Agrees.prepares (h : s.Agrees t) (k : State.Prepares c t x os) : State.Prepares c s x os where
  orderly := (State.Orderly.of_pins h.pins).trans k.orderly
  ae := k.ae.trans h.ae
  latches hc := by
    obtain ⟨hkept, houtput⟩ := State.KeepsLatches.of_eq h.latches
    obtain ⟨kkept, koutput⟩ := k.latches hc
    exact ⟨fun n hn => kkept n (hkept n hn), fun o => (koutput o).trans (houtput o)⟩
  ready hlaw := by
    obtain ⟨ktime, kloading, kalive, kformed, kunmoved⟩ := k.ready (h.decisionLaw hlaw)
    rw [h.phase, h.ou] at kloading
    rw [h.phase] at kalive
    exact ⟨ktime, kloading, kalive, kformed, fun o ho => h.unmoved.trans (kunmoved o ho)⟩

theorem State.DecisionLaw.formed (h : s.DecisionLaw) (o : OutputId) : s.PassFormed o :=
  (State.passLawful_iff.1 (h.2.2.1 o)).1

/-- What the decisions of the ACTIVE outputs outside `os` read has not changed. -/
theorem State.Prepares.of_view (hpins : t.pins = s.pins := by rfl) (hae : t.ae = s.ae := by rfl)
    (hlatches : c ≠ .take → s.KeepsLatches t) (htime : s.TimeLaw → t.TimeLaw := by exact fun h => h)
    (hphase : t.phase = s.phase := by rfl) (hou : t.ou = s.ou := by rfl)
    (hview : s.DecisionLaw → ∀ o, o ∉ os → s.ou[o].mode = .active → s.SameView t o)
    (hpasses : s.DecisionLaw → ∀ o, t.PassFormed o := by exact fun hlaw o => hlaw.formed o) :
    State.Prepares c s t os where
  orderly := .of_pins hpins
  ae := hae
  latches := hlatches
  ready hlaw := by
    refine ⟨htime hlaw.1, fun h => ⟨hphase ▸ h, hou⟩, fun h => hphase ▸ h, hpasses hlaw, fun o ho =>
      ⟨by rw [hpins], by rw [hpins], ?_⟩⟩
    cases hm : s.ou[o].mode with
    | standby => exact .inl ⟨rfl, by rw [hou]⟩
    | active => exact .inr (hview hlaw o ho hm)

theorem State.Prepares.quiet (h : s.Agrees t) : State.Prepares c s t os :=
  .of_view h.pins h.ae (fun _ => .of_eq h.latches) (fun k => by rw [State.TimeLaw, h.tb]; exact k) h.phase h.ou
    (fun _ _ _ _ => h.sameView) (fun hlaw o => h.passFormed (hlaw.formed o))

theorem State.report_nil_agrees (s : State) : (s.report []).Agrees s := by
  have hwrite := s.startWrite_rest
  rw [← State.report_nil] at hwrite
  rw [hwrite]
  exact {}

/-- Changes that leave the decisions as they were come before others. -/
theorem State.Prepares.trans (h : State.Prepares c s t []) (k : State.Prepares c t x os) : State.Prepares c s x os where
  orderly := h.orderly.trans k.orderly
  ae := k.ae.trans h.ae
  latches hc := by
    obtain ⟨hkept, houtput⟩ := h.latches hc
    obtain ⟨kkept, koutput⟩ := k.latches hc
    exact ⟨fun n hn => kkept n (hkept n hn), fun o => (koutput o).trans (houtput o)⟩
  ready hlaw := by
    have hready := h.ready hlaw
    obtain ⟨ktime, kloading, kalive, kformed, kunmoved⟩ :=
      k.ready (t.report_nil_agrees.decisionLaw (hready.decisionLaw h.ae hlaw))
    refine ⟨ktime, fun hphase => ?_, fun hphase => hready.alive (kalive hphase), kformed, fun o ho =>
      (hready.unmoved o List.not_mem_nil).trans (kunmoved o ho)⟩
    obtain ⟨kphase, kou⟩ := kloading hphase
    obtain ⟨hphase, hou⟩ := hready.loading kphase
    exact ⟨hphase, kou.trans hou⟩

/-- A command that makes some changes and closes its event. -/
def State.Closing (c : Instr) (s t : State) : Prop :=
  ∃ x os, State.Prepares c s x os ∧ (x.report os).Agrees t

theorem State.Prepares.report (h : State.Prepares c s x os) : State.Closing c s (x.report os) := ⟨x, os, h, .refl _⟩

theorem State.Prepares.silent (h : State.Prepares c s x []) : State.Closing c s x := ⟨x, [], h, x.report_nil_agrees⟩

theorem State.Closing.agrees (h : State.Closing c s t) (k : t.Agrees x) : State.Closing c s x := by
  obtain ⟨y, os, hprepares, hagrees⟩ := h
  exact ⟨y, os, hprepares, hagrees.trans k⟩

theorem State.Agrees.closing (h : s.Agrees t) (k : State.Closing c t x) : State.Closing c s x := by
  obtain ⟨y, os, kprepares, kagrees⟩ := k
  exact ⟨y, os, h.prepares kprepares, kagrees⟩

theorem State.Dirties.agrees (d : s.Dirties t) : s.Agrees t := by
  rw [d.rest]
  exact {}

/-! ### An event that may change routes -/

/-- The words for the changed routes are loaded before the outputs touched are evaluated (R57). -/
theorem State.Prepares.loadRoutes (h : State.Prepares c s x (State.touched s x ++ os)) :
    State.Prepares c s (State.loadRoutes s x) (State.touched s x ++ os) := by
  have hrest := (State.loadRoutes_pinsOnly s x).rest
  have hcl : (State.loadRoutes s x).cl = x.cl := by rw [hrest]
  refine ⟨h.orderly.trans (State.loadRoutes_orderly s x), (by rw [hrest]; exact h.ae), fun hc => ?_, fun hlaw => ?_⟩
  · obtain ⟨hkept, houtput⟩ := h.latches hc
    exact ⟨by rw [hcl]; exact hkept, by rw [hcl]; exact houtput⟩
  · obtain ⟨htime, hloading, halive, hformed, hunmoved⟩ := h.ready hlaw
    have hgates (o : OutputId) (ho : o ∉ State.touched s x ++ os) := by
      have hroute : s.route o = x.route o := by
        rw [State.route, State.route, (State.of_not_touched fun h => ho (List.mem_append_left _ h)).1]
      exact State.loadRoutes_gates hroute
    generalize State.loadRoutes s x = y at hrest hgates ⊢
    generalize hpins : y.pins = pins at hrest hgates
    refine ⟨?_, ?_, ?_, fun o => ?_, fun o ho => ?_⟩
    · rw [hrest]; exact htime
    · rw [hrest]; exact hloading
    · rw [hrest]; exact halive
    · rw [hrest]; exact hformed o
    · obtain ⟨hpicture, hdescramble, hview⟩ := hunmoved o ho
      obtain ⟨hp, hd⟩ := hgates o ho
      refine ⟨hpins ▸ hp.trans hpicture, hpins ▸ hd.trans hdescramble, ?_⟩
      rw [hrest]
      exact hview.imp_right fun v => ⟨v.ou, v.committed, v.tuner, v.ent, v.clock, v.current, v.bought, v.pinState,
        v.profile, v.pass⟩

theorem State.Prepares.finish (h : State.Prepares c s x (State.touched s x ++ os)) :
    State.Closing c s (State.finish s os x) := h.loadRoutes.report

end

/-! ### Channels cleared (R45, R46, R54, R138) -/

/-- Each output keeps mode, channel and pass, or has lost its channel and its pass. -/
structure State.Clears (s t : State) : Prop where
  mode : ∀ o : OutputId, t.ou[o].mode = s.ou[o].mode
  pass : ∀ o : OutputId, (t.ou[o].channel = s.ou[o].channel ∧ t.pc.passes[o] = s.pc.passes[o]) ∨
    (s.ou[o].channel ≠ none ∧ t.ou[o].channel = none ∧ t.pc.passes[o] = none)

section
variable {s t u : State} {o p : OutputId}

theorem State.Clears.refl (s : State) : s.Clears s := ⟨fun _ => rfl, fun _ => .inl ⟨rfl, rfl⟩⟩

theorem State.Clears.trans (h : s.Clears t) (k : t.Clears u) : s.Clears u := by
  refine ⟨fun o => (k.mode o).trans (h.mode o), fun o => ?_⟩
  rcases h.pass o with ⟨hch, hpass⟩ | ⟨hsome, hnone, hpass⟩
  · rcases k.pass o with ⟨kch, kpass⟩ | ⟨ksome, knone, kpass⟩
    · exact .inl ⟨kch.trans hch, kpass.trans hpass⟩
    · exact .inr ⟨hch ▸ ksome, knone, kpass⟩
  · rcases k.pass o with ⟨kch, kpass⟩ | ⟨ksome, -⟩
    · exact .inr ⟨hsome, kch.trans hnone, kpass.trans hpass⟩
    · exact absurd hnone ksome

theorem State.Clears.foldl {α : Type} {f : State → α → State} (h : ∀ (s : State) (a : α), s.Clears (f s a)) (l : List α)
    (s : State) : s.Clears (l.foldl f s) :=
  foldl_related Clears.refl Clears.trans h l s

theorem State.Allots.clears (h : s.Allots t) : s.Clears t := by
  have hpc : t.pc = s.pc := by rw [h.rest]
  exact ⟨fun o => (h.seats o).1, fun o => .inl ⟨(h.seats o).2, by rw [hpc]⟩⟩

theorem State.Clears.passFormed (h : s.Clears t) (k : s.PassFormed o) : t.PassFormed o := by
  intro q hq
  rcases h.pass o with ⟨hch, hpass⟩ | ⟨-, -, hpass⟩
  · rw [h.mode, hch]
    exact k q (hpass ▸ hq)
  · rw [hpass] at hq
    cases hq

theorem State.setOutput_same (o : OutputId) (x : Output) (s : State) : (s.setOutput o x).ou[o] = x :=
  Vector.getElem_set_self _

theorem State.setOutput_other (h : p ≠ o) (x : Output) (s : State) : (s.setOutput o x).ou[p] = s.ou[p] :=
  Vector.getElem_set_ne o.isLt p.isLt fun e => h (Fin.ext e.symm)

theorem State.setPass_same (o : OutputId) (q : Option Pass) (s : State) : (s.setPass o q).pc.passes[o] = q :=
  Vector.getElem_set_self _

theorem State.setPass_other (h : p ≠ o) (q : Option Pass) (s : State) : (s.setPass o q).pc.passes[p] = s.pc.passes[p] :=
  Vector.getElem_set_ne o.isLt p.isLt fun e => h (Fin.ext e.symm)

theorem State.setChannel_same (o : OutputId) (ch : Option Nat) (s : State) :
    (s.setChannel o ch).ou[o] = { s.ou[o] with channel := ch } ∧ (s.setChannel o ch).pc.passes[o] = none :=
  ⟨s.setOutput_same o _, State.setPass_same o none _⟩

theorem State.setChannel_other (h : p ≠ o) (ch : Option Nat) (s : State) :
    (s.setChannel o ch).ou[p] = s.ou[p] ∧ (s.setChannel o ch).pc.passes[p] = s.pc.passes[p] :=
  ⟨s.setOutput_other h _, State.setPass_other h none _⟩

theorem State.setChannel_clears (h : s.ou[o].channel ≠ none) : s.Clears (s.setChannel o none) := by
  obtain ⟨hou, hpass⟩ := s.setChannel_same o none
  have hseat (p : OutputId) : (s.setChannel o none).ou[p].mode = s.ou[p].mode ∧
      (((s.setChannel o none).ou[p].channel = s.ou[p].channel ∧
        (s.setChannel o none).pc.passes[p] = s.pc.passes[p]) ∨
      (s.ou[p].channel ≠ none ∧ (s.setChannel o none).ou[p].channel = none ∧
        (s.setChannel o none).pc.passes[p] = none)) := by
    by_cases hp : p = o
    · subst hp
      rw [hou]
      exact ⟨rfl, .inr ⟨h, rfl, hpass⟩⟩
    · obtain ⟨hou', hpass'⟩ := s.setChannel_other hp none
      rw [hou']
      exact ⟨rfl, .inl ⟨rfl, hpass'⟩⟩
  exact ⟨fun p => (hseat p).1, fun p => (hseat p).2⟩

theorem State.wakeOutput_clears (o : OutputId) (s : State) : s.Clears (s.wakeOutput o) := by
  unfold State.wakeOutput
  split
  · exact .refl s
  · split
    · exact State.setChannel_clears (by rw [‹s.ou[o].channel = _›]; nofun)
    · exact (s.allocateOrWait_allots o _).clears

theorem State.vanish_clears (h : s.ou[o].channel ≠ none) : s.Clears (s.vanish o) := by
  unfold State.vanish
  dsimp only
  split_ifs
  · exact (State.setChannel_clears h).trans (State.attach_allots o _ _).clears
  · exact State.setChannel_clears h

theorem State.vanish_other (h : p ≠ o) : (s.vanish o).ou[p] = s.ou[p] := by
  unfold State.vanish
  dsimp only
  split_ifs
  · rw [State.attach_other h, (s.setChannel_other h none).1]
  · exact (s.setChannel_other h none).1

theorem State.foldl_vanish_clears {l : List OutputId} (nodup : l.Nodup) {s : State}
    (h : ∀ o ∈ l, s.ou[o].channel ≠ none) : s.Clears (l.foldl (fun acc o => acc.vanish o) s) := by
  induction l generalizing s with
  | nil => exact .refl s
  | cons o l ih =>
    obtain ⟨hno, nodup⟩ := List.nodup_cons.1 nodup
    refine (State.vanish_clears (h o (List.mem_cons_self ..))).trans (ih nodup fun p hp => ?_)
    rw [State.vanish_other (ne_of_mem_of_not_mem hp hno)]
    exact h p (List.mem_cons_of_mem _ hp)

theorem State.moveOutput_allots (o : OutputId) (s : State) : s.Allots (s.moveOutput o) := by
  unfold State.moveOutput
  split
  · exact s.allocateOrWait_allots o _
  · exact .refl s

theorem State.mem_inClass {k : CommitClass} : o ∈ s.inClass k ↔ s.commitClass o = some k := by
  simp [State.inClass, State.mem_allOutputs]

theorem State.channel_of_commitClass {k : CommitClass} (h : s.commitClass o = some k) :
    s.ou[o].mode = .active ∧ s.ou[o].channel ≠ none := by
  unfold State.commitClass at h
  split_ifs at h with hactive
  refine ⟨by simpa [State.isActive] using hactive, fun hch => ?_⟩
  simp only [hch] at h
  cases h

theorem State.inClass_nodup (k : CommitClass) (s : State) : (s.inClass k).Nodup :=
  List.Nodup.filter _ (by decide)

theorem State.reResolve_clears (s : State) : s.Clears s.reResolve :=
  (((State.foldl_vanish_clears (s.inClass_nodup .vanished) fun _ ho =>
    (State.channel_of_commitClass (State.mem_inClass.1 ho)).2).trans (State.detachSet_allots _ _).clears).trans
      (Allots.foldl (fun s o => s.moveOutput_allots o) _ _).clears).trans (State.serveWaiting_allots _).clears

end

/-! ### An event of the arbiter -/

section
variable {c : Instr} {s x : State} {os : List OutputId}

theorem State.Prepares.rewired (h : s.Rewires x) (running : s.phase = .running)
    (hformed : s.DecisionLaw → ∀ o, x.PassFormed o)
    (hkept : ∀ o, o ∉ State.touched s x ++ os → x.pc.passes[o] = s.pc.passes[o]) :
    State.Prepares c s x (State.touched s x ++ os) := by
  obtain ⟨hphase, hcl, -, htb, hcm, -, hpg, hep, hae, -, -, hprofiles, hbindings, hrecord, -⟩ := h.frame
  obtain ⟨w, hpins, -⟩ := h.pins
  refine ⟨h.orderly, hae, fun _ => .of_eq (by rw [hcl]), fun hlaw => ⟨by rw [State.TimeLaw, htb]; exact hlaw.1,
    fun hload => ?_, fun _ => .inr running, hformed hlaw, fun o ho => ⟨by rw [hpins], by rw [hpins], .inr ?_⟩⟩⟩
  · rw [hphase, running] at hload
    cases hload
  · obtain ⟨hou, htuner⟩ := State.of_not_touched fun h => ho (List.mem_append_left os h)
    refine ⟨hou, by rw [hcm], fun u sl hatt => htuner u sl (by rw [hou]; exact hatt), by rw [hep], by rw [htb], ?_,
      fun _ _ _ => by rw [hep], by rw [State.pinState, State.pinState, hrecord], ?_, .inl (hkept o ho)⟩
    · simp only [State.currentOf, State.current, State.now, hou, hpg, htb]
    · have hpair : (x.pc.profiles, x.pc.bindings) = (s.pc.profiles, s.pc.bindings) := by rw [hprofiles, hbindings]
      exact congrArg (fun p : Vector Profile 4 × Vector ProfileId 4 => p.1[p.2[o]]) hpair

end

section
variable {c : Instr} {s x : State} {os : List OutputId}

/-- A notice latched besides (R197). -/
theorem State.Prepares.latch {n : Notice} (h : State.Prepares c s x os) (hn : ∀ o, n ≠ .outputState o) :
    State.Prepares c s (x.latch n) os where
  orderly := h.orderly.trans .of_pins
  ae := h.ae
  latches hc := (h.latches hc).latch hn
  ready hlaw := by
    obtain ⟨htime, hloading, halive, hformed, hunmoved⟩ := h.ready hlaw
    refine ⟨htime, hloading, halive, hformed, fun o ho => ?_⟩
    obtain ⟨hpicture, hdescramble, hview⟩ := hunmoved o ho
    exact ⟨hpicture, hdescramble, hview.imp_right fun v => v.trans {}⟩

theorem State.Prepares.dirties {m : State} (h : State.Prepares c s m os) (d : m.Dirties x) : State.Prepares c s x os :=
  h.agrees d.agrees

/-! ### Requests -/

theorem State.Passed.prepares (h : s.Passed x) : State.Prepares c s x os := by
  obtain rfl | ⟨-, rfl⟩ := h
  · exact .quiet (.refl _)
  · exact (State.Prepares.of_view (hlatches := fun _ => .of_eq) (hview := fun _ _ _ _ => {})).dirties
      (s.setPinRecord_dirties _)

theorem State.setPinRecord_prepares (r : PinRecord) (h : ∀ o, s.ou[o].mode = .active → o ∈ os) :
    State.Prepares c s (s.setPinRecord r) os :=
  (State.Prepares.of_view (t := { s with pc := { s.pc with record := r } }) (hlatches := fun _ => .of_eq)
    (hview := fun _ o ho hactive => absurd (h o hactive) ho)).dirties (s.setPinRecord_dirties r)

theorem State.setPinRecord_prepares_same (r : PinRecord) (h : r.state = s.pinState) :
    State.Prepares c s (s.setPinRecord r) os :=
  (State.Prepares.of_view (t := { s with pc := { s.pc with record := r } }) (hlatches := fun _ => .of_eq)
    (hview := fun _ _ _ _ => { pinState := h })).dirties (s.setPinRecord_dirties r)

theorem State.active_mem (o : OutputId) (h : s.ou[o].mode = .active) : o ∈ s.activeOutputs :=
  State.mem_activeOutputs.2 h

theorem State.countWrong_closing (s : State) : State.Closing c s s.countWrong := by
  unfold State.countWrong
  dsimp only
  split_ifs
  · exact ((State.setPinRecord_prepares _ State.active_mem).latch (by simp)).report
  · have hprepares : State.Prepares c s (s.setPinRecord { s.pc.record with attempts := s.pc.record.attempts + 1 }) [] :=
      State.setPinRecord_prepares_same { s.pc.record with attempts := s.pc.record.attempts + 1 } rfl
    exact hprepares.report

theorem PinRecord.state_armed {r : PinRecord} (h : r.state = .armed) : r.lockout = 0 ∧ r.pin ≠ none := by
  unfold PinRecord.state at h
  split_ifs at h with hlock
  refine ⟨by omega, fun hnone => ?_⟩
  rw [hnone] at h
  cases h

theorem State.mem_boundOutputs {o : OutputId} {p : ProfileId} :
    o ∈ s.boundOutputs p ↔ s.ou[o].mode = .active ∧ s.pc.bindings[o] = p := by
  simp [State.boundOutputs, State.mem_activeOutputs]

theorem State.setProfile_closing (p : ProfileId) (v : Profile) (x : State) : State.Closing c x (x.setProfile p v) := by
  have hprepares : State.Prepares c x { x with pc := { x.pc with profiles := x.pc.profiles.set p v } }
      (x.boundOutputs p) := by
    refine .of_view (hlatches := fun _ => .of_eq) (hview := fun _ o ho hactive => { profile := ?_ })
    have hne : p.val ≠ (x.pc.bindings[o]).val := fun e => ho (State.mem_boundOutputs.2 ⟨hactive, (Fin.ext e).symm⟩)
    exact Vector.getElem_set_ne p.isLt (x.pc.bindings[o]).isLt hne
  exact (hprepares.dirties (State.markDirty_dirties _ _)).report

theorem State.bindOutput_closing (o : OutputId) (p : ProfileId) (x : State) : State.Closing c x (x.bindOutput o p) := by
  unfold State.bindOutput
  split_ifs with hbound hactive
  · exact (State.Prepares.quiet (.refl x)).report
  all_goals
    refine State.Prepares.report (State.Prepares.dirties (m := { x with pc := { x.pc with
      bindings := x.pc.bindings.set o p } }) ?_ (State.markDirty_dirties _ _))
    refine .of_view (hlatches := fun _ => .of_eq) (hview := fun _ q hq hmode => { profile := ?_ })
    have hne : q ≠ o := by
      rintro rfl
      first
        | exact hq (List.mem_singleton.2 rfl)
        | exact hactive (by rw [State.isActive, hmode]; rfl)
    have hbinding : (x.pc.bindings.set o p)[q] = x.pc.bindings[q] :=
      Vector.getElem_set_ne o.isLt q.isLt fun e => hne (Fin.ext e.symm)
    exact congrArg (fun k : ProfileId => x.pc.profiles[k]) hbinding

theorem Purchasing.recordFor_append {e : Purchasing} {p : Purchase} {ch id : Nat} (h : p.service ≠ ch) :
    ({ e with log := e.log ++ [p] } : Purchasing).recordFor ch id = e.recordFor ch id := by
  simp [Purchasing.recordFor, List.find?_append, h]

theorem State.acceptBuy_closing (ch n : Nat) (e : GuideEvent) (x : State) : State.Closing c x (x.acceptBuy ch n e) := by
  have hprepares : State.Prepares c x (x.bought ch n e) (x.outputsOn ch) := by
    refine .of_view (hlatches := fun _ => .of_eq) (hview := fun _ o ho hactive => { bought := fun ch' id hch => ?_ })
    have hne : (x.ep.newRecord ch n e).service ≠ ch' := fun e =>
      ho (State.mem_outputsOn.2 ⟨hactive, hch.trans (congrArg some e.symm)⟩)
    exact congrArg (Option.map Purchase.state) (Purchasing.recordFor_append (e := x.ep) hne)
  have hmark := (hprepares.dirties (State.markDirty_dirties (.slot x.ep.freeSlot) _)).dirties
    (State.markDirty_dirties .sequence _)
  rw [State.acceptBuy_eq]
  dsimp only
  split_ifs
  · exact (hmark.latch (by simp)).report
  · exact hmark.report

theorem State.modes_of_asleep (h : s.awake = false) (o : OutputId) : s.ou[o].mode = .standby := by
  cases hm : s.ou[o].mode with
  | standby => rfl
  | active => rw [s.awake_iff.2 ⟨o, hm⟩] at h; cases h

theorem State.asleep_passes (h : s.awake = false) (hlaw : s.DecisionLaw) (o : OutputId) : s.pc.passes[o] = none := by
  by_contra hsome
  obtain ⟨q, hq⟩ := Option.ne_none_iff_exists'.1 hsome
  have hactive := (hlaw.formed o q hq).1
  rw [State.modes_of_asleep h o] at hactive
  cases hactive

theorem State.setModes_passes (m : Mode) (s : State) : (s.setModes m).pc = s.pc :=
  foldl_related (R := fun a b : State => b.pc = a.pc) (fun _ => rfl) (fun h k => k.trans h) (fun _ _ => rfl) allOutputs s

theorem State.wakeAll_clears (s : State) : (s.setModes .active).Clears s.wakeAll :=
  .foldl (fun s o => s.wakeOutput_clears o) allOutputs _

theorem State.wake_closing (h : s.awake = false) (running : s.phase = .running) :
    State.Closing c s (State.finish s allOutputs s.wakeAll) := by
  refine (State.Prepares.rewired s.wakeAll_rewires running (fun hlaw o => ?_) fun o ho =>
    absurd (List.mem_append_right _ (State.mem_allOutputs o)) ho).finish
  refine s.wakeAll_clears.passFormed fun q hq => ?_
  rw [State.setModes_passes, State.asleep_passes h hlaw o] at hq
  cases hq

theorem State.standby_closing (running : s.phase = .running) :
    State.Closing c s (State.finish s allOutputs s.sleepAll) := by
  refine (State.Prepares.rewired s.sleepAll_rewires running (fun _ o q hq => ?_) fun o ho =>
    absurd (List.mem_append_right _ (State.mem_allOutputs o)) ho).finish
  have hnone : s.sleepAll.pc.passes[o] = none := Vector.getElem_replicate _
  rw [hnone] at hq
  cases hq

theorem State.select_closing {o : OutputId} {e : MapEntry} {ch : Nat} (h : s.allocate o e.carrier e.slot = some x)
    (running : s.phase = .running) : State.Closing c s (State.finish s [o] (x.setChannel o (some ch))) := by
  have hallots := State.allocate_allots h
  have hpc : x.pc = s.pc := by rw [hallots.rest]
  have hkept (p : OutputId) (hp : p ≠ o) : (x.setChannel o (some ch)).pc.passes[p] = s.pc.passes[p] := by
    rw [(x.setChannel_other hp (some ch)).2, hpc]
  refine (State.Prepares.rewired (hallots.rewires.trans (x.setChannel_rewires o (some ch))) running
    (fun hlaw p q hq => ?_) fun p hp => hkept p fun hpo => hp (List.mem_append_right _ (hpo ▸ List.mem_singleton.2 rfl))).finish
  by_cases hp : p = o
  · subst hp
    rw [(x.setChannel_same p (some ch)).2] at hq
    cases hq
  · obtain ⟨hmode, hch⟩ := hallots.seats p
    rw [hkept p hp] at hq
    rw [(x.setChannel_other hp (some ch)).1, hmode, hch]
    exact hlaw.formed p q hq

theorem State.passFor_formed {o : OutputId} {sc : Scope} {p : Pass} (h : s.passFor o sc = some p) :
    ∃ ch, s.ou[o].channel = some ch ∧
      ((∃ left, p = .channel ch left ∧ 1 ≤ left ∧ left ≤ 240) ∨ ∃ id, p = .event ch id) := by
  unfold State.passFor at h
  cases hch : s.ou[o].channel with
  | none => simp only [hch] at h; cases h
  | some ch =>
    refine ⟨ch, rfl, ?_⟩
    cases sc <;> simp only [hch] at h
    case channel => exact .inl ⟨240, (Option.some.inj h).symm, by decide, by decide⟩
    case event =>
      obtain ⟨e, -, rfl⟩ := Option.map_eq_some_iff.1 h
      exact .inr ⟨e.eventId, rfl⟩

/-- An output whose decision is parental is awake. -/
theorem State.active_of_parental {o : OutputId} (hlaw : s.DecisionLaw) (running : s.phase = .running)
    (blocked : s.ae[o].decision.isParental = true) : s.ou[o].mode = .active := by
  cases hm : s.ou[o].mode with
  | active => rfl
  | standby =>
    rw [(hlaw.2.2.2 (.inr running) o).1, State.decisionRecord_standby hm] at blocked
    cases blocked

theorem State.pinEnter_closing {o : OutputId} {sc : Scope} {p : Pass} (gives : s.passFor o sc = some p)
    (blocked : s.ae[o].decision.isParental = true) (running : s.phase = .running) :
    State.Closing c s ((s.acceptPin.setPass o (some p)).report [o]) := by
  have hmark : ({ s with pc := { s.pc with record := { s.pc.record with attempts := 0 } } } : State).Dirties s.acceptPin :=
    s.setPinRecord_dirties { s.pc.record with attempts := 0 }
  have hkept (q : OutputId) (hq : q ≠ o) : (s.pc.passes.set o (some p))[q] = s.pc.passes[q] :=
    Vector.getElem_set_ne o.isLt q.isLt fun e => hq (Fin.ext e.symm)
  refine State.Prepares.report (State.Prepares.dirties ?_ (hmark.setPass o (some p)))
  refine .of_view (hlatches := fun _ => .of_eq)
    (hview := fun _ q hq _ => { pass := .inl (hkept q fun h => hq (h ▸ List.mem_singleton.2 rfl)) })
    (hpasses := fun hlaw q r hr => ?_)
  by_cases hq : q = o
  · subst hq
    have hset : (s.pc.passes.set q (some p))[q] = some p := Vector.getElem_set_self _
    obtain rfl : p = r := Option.some.inj (hset.symm.trans hr)
    have hactive : s.ou[q].mode = .active := State.active_of_parental hlaw running blocked
    exact ⟨hactive, State.passFor_formed gives⟩
  · exact hlaw.formed q r ((hkept q hq).symm.trans hr)

theorem State.startWrite_agrees (s : State) : s.Agrees s.startWrite := by
  rw [s.startWrite_rest]
  exact {}

/-- Every pass ended, and the PIN's settings replaced, with every room to be decided. -/
theorem State.allEnded_prepares {pc : Parental} (hpc : pc.passes = Vector.replicate 4 none)
    (h : ({ s with pc := pc } : State).Dirties x) : State.Prepares c s x s.activeOutputs := by
  refine State.Prepares.dirties ?_ h
  refine .of_view (hlatches := fun _ => .of_eq) (hview := fun _ o ho hactive => absurd (State.active_mem o hactive) ho)
    (hpasses := fun _ o q hq => ?_)
  have hnone : pc.passes[o] = none := by rw [hpc]; exact Vector.getElem_replicate _
  cases hnone.symm.trans hq

/-- Every request but TAKE, whose latch is its own, makes its changes and closes its event (R190, R191). -/
theorem Serving.closing {st : Status} (h : Serving c s x st) (running : s.phase = .running) : State.Closing c s x := by
  cases h with
  | answers => exact (State.Prepares.quiet (.refl s)).silent
  | restart => exact (State.Prepares.quiet {}).silent
  | mask => exact (State.Prepares.quiet {}).silent
  | take => exact (State.Prepares.of_view (hlatches := fun h => absurd rfl h) (hview := fun _ _ _ _ => {})).silent
  | wake _ asleep => exact State.wake_closing asleep running
  | standby => exact State.standby_closing running
  | select _ _ o ch e y _ _ _ _ served => exact State.select_closing served running
  | tunerSetup _ v =>
    refine State.Prepares.silent ?_
    unfold State.setIf
    split_ifs
    · exact .quiet (.refl s)
    · have hprepares : State.Prepares .tunerSetup s { s with tp := { s.tp with ifKHz := v } } [] :=
        .of_view (hlatches := fun _ => .of_eq) (hview := fun _ _ _ _ => {})
      exact (hprepares.dirties (State.markDirty_dirties _ _)).agrees (State.startWrite_agrees _)
  | wrongPin => exact s.countWrong_closing
  | firstPin => exact (State.setPinRecord_prepares _ State.active_mem).report
  | newPin _ new _ _ armed =>
    refine State.Prepares.report (State.setPinRecord_prepares_same { s.pc.record with pin := some new, attempts := 0 } ?_)
    rw [armed, PinRecord.state, (PinRecord.state_armed armed).1]
    rfl
  | pinClear => exact (State.allEnded_prepares rfl (State.clearPin_dirties s)).report
  | masterClear => exact (State.allEnded_prepares rfl (State.masterClear_dirties s)).report
  | pinEnter _ o sc p _ blocked gives _ => exact State.pinEnter_closing gives blocked running
  | freeze => exact (State.Prepares.of_view (hlatches := fun _ => .of_eq) (hview := fun _ _ _ _ => {})).silent
  | profileSet _ y p v _ passed =>
    obtain ⟨z, os, hprepares, hagrees⟩ := State.setProfile_closing (c := .profileSet) p v y
    exact ⟨z, os, passed.prepares.trans hprepares, hagrees⟩
  | bind _ y o p _ passed =>
    obtain ⟨z, os, hprepares, hagrees⟩ := State.bindOutput_closing (c := .bind) o p y
    exact ⟨z, os, passed.prepares.trans hprepares, hagrees⟩
  | feedSetup _ m st ak edge =>
    have hset : s.Agrees { s with hf := s.hf.setUp m st ak edge } := {}
    exact (State.Prepares.quiet ((hset.trans (State.markDirty_dirties _ _).agrees).trans
      (State.startWrite_agrees _))).silent
  | buyRefused _ y _ passed => exact passed.prepares.report
  | buy _ y service n e passed =>
    obtain ⟨z, os, hprepares, hagrees⟩ := State.acceptBuy_closing (c := .buy) service n e y
    exact ⟨z, os, passed.prepares.trans hprepares, hagrees⟩

end

/-! ### The minute and the clock (R60 to R65) -/

theorem TimeBase.tick_clock {b : TimeBase} {c : WallClock} (h : b.tick.clock = some c) :
    ∃ held, b.clock = some held ∧ c = held.tick :=
  (Option.map_eq_some_iff.1 h).imp fun _ h => ⟨h.1, h.2.symm⟩

theorem State.TimeLaw.tick {s : State} (h : s.TimeLaw) : ({ s with tb := s.tb.tick } : State).TimeLaw := by
  obtain ⟨hlocal, hclock⟩ := h
  refine ⟨?_, fun c hc => ?_⟩
  · have hlt : (s.tb.localSeconds + 1) % Config.localWrap < Config.localWrap := Nat.mod_lt _ (by decide)
    exact Nat.le_of_lt_succ hlt
  · obtain ⟨held, hheld, rfl⟩ := TimeBase.tick_clock hc
    obtain ⟨hday, hsecond⟩ := hclock held hheld
    unfold WallClock.tick
    split_ifs with hlast
    · exact ⟨hday, Nat.le_of_lt_succ hlast⟩
    · exact ⟨Nat.le_of_lt_succ (Nat.mod_lt (held.day + 1) (by decide : 0 < Config.dayWrap)), Nat.zero_le _⟩

/-- Between two full minutes the day and the minute of day stand (R62). -/
theorem TimeBase.tick_view {b : TimeBase} (h : b.tick.minuteDue = false) :
    b.tick.clock.map WallClock.view = b.clock.map WallClock.view := by
  unfold TimeBase.minuteDue at h
  cases hb : b.clock with
  | none => simp only [TimeBase.tick, hb, Option.map_none]
  | some c =>
    simp only [TimeBase.tick, hb, Option.map_some, beq_eq_false_iff_ne, ne_eq] at h ⊢
    unfold WallClock.tick at h ⊢
    split_ifs at h ⊢
    · simp only [WallClock.view, WallClock.minuteOfDay, Option.some.injEq, Prod.mk.injEq, true_and]
      dsimp only at h
      omega
    · exact absurd rfl h

theorem WallClock.view_of_now {a b : WallClock} (ha : a.second < 86400) (hb : b.second < 86400) (h : a.now = b.now) :
    a.view = b.view := by
  simp only [WallClock.now, WallClock.minuteOfDay, Config.dayMinutes] at h
  simp only [WallClock.view, WallClock.minuteOfDay, Prod.mk.injEq]
  omega

theorem Pass.minute_formed {q r : Pass} (h : q.minute = some r) {ch : Nat}
    (hq : (∃ left, q = .channel ch left ∧ 1 ≤ left ∧ left ≤ 240) ∨ ∃ id, q = .event ch id) :
    (∃ left, r = .channel ch left ∧ 1 ≤ left ∧ left ≤ 240) ∨ ∃ id, r = .event ch id := by
  rcases hq with ⟨left, rfl, hlow, hhigh⟩ | ⟨id, rfl⟩
  · simp only [Pass.minute, Option.ite_none_left_eq_some, not_le] at h
    obtain ⟨hleft, ⟨⟩⟩ := h
    exact .inl ⟨left - 1, rfl, by omega, by omega⟩
  · obtain ⟨⟩ := h
    exact .inr ⟨id, rfl⟩

section
variable {c : Instr} {s m x : State} {os : List OutputId}

/-- The minute event decides every room anew (R159). -/
theorem State.Prepares.minute (h : State.Prepares c s m m.activeOutputs) : State.Closing c s m.minuteEvent := by
  obtain ⟨x, hmark, heq, -⟩ := m.minuteEvent_cases
  have hou : x.ou = m.ou := hmark.ou
  have hactive : x.activeOutputs = m.activeOutputs :=
    congrArg (fun ou : Vector Output 4 => allOutputs.filter fun o : OutputId => ou[o].mode == .active) hou
  rw [heq, hactive]
  refine State.Prepares.report (State.Prepares.dirties (m := m.afterMinute) ⟨h.orderly.trans .of_pins, h.ae,
    fun hc => ⟨(h.latches hc).kept, (h.latches hc).output⟩, fun hlaw => ?_⟩ hmark)
  obtain ⟨htime, hloading, halive, hformed, hunmoved⟩ := h.ready hlaw
  refine ⟨htime, hloading, halive, fun o q hq => ?_, fun o ho => (hunmoved o ho).trans ⟨rfl, rfl, .inl ⟨?_, rfl⟩⟩⟩
  · rw [m.afterMinute_pc] at hq
    have hmap : (m.pc.passes.map fun p => p.bind Pass.minute)[o] = (m.pc.passes[o]).bind Pass.minute :=
      Vector.getElem_map ..
    obtain ⟨p, hp, hminute⟩ := Option.bind_eq_some_iff.1 (hmap.symm.trans hq)
    obtain ⟨hmode, ch, hch, hform⟩ := hformed o p hp
    exact ⟨hmode, ch, hch, Pass.minute_formed hminute hform⟩
  · cases hm : m.ou[o].mode with
    | standby => rfl
    | active => exact absurd (State.active_mem o hm) ho

theorem State.takeTime_closing {v : WallClock} (hday : v.day < 65536) (hsecond : v.second < 86400) :
    State.Closing c s (s.takeTime v) := by
  have htime : s.TimeLaw → ({ s with tb := { s.tb with clock := some v } } : State).TimeLaw := fun h =>
    ⟨h.1, fun c hc => by
      obtain rfl : v = c := Option.some.inj hc
      omega⟩
  have hset : State.Prepares c s { s with tb := { s.tb with clock := some v } } s.activeOutputs :=
    .of_view (hlatches := fun _ => .of_eq) (htime := htime)
      (hview := fun _ o ho hactive => absurd (State.active_mem o hactive) ho)
  obtain ⟨held, hheld, hnow, heq⟩ | heq | heq := s.takeTime_cases v
  · rw [heq]
    refine (State.Prepares.of_view (hlatches := fun _ => .of_eq) (htime := htime)
      (hview := fun hlaw o _ _ => ?_)).silent
    have hview : (some v).map WallClock.view = s.tb.clock.map WallClock.view := by
      have hrange := (hlaw.1.2 held hheld).2
      rw [hheld, Option.map_some, Option.map_some, WallClock.view_of_now hsecond (by omega) hnow]
    have hnow' : some v.now = s.now := by rw [State.now, hheld, Option.map_some, hnow]
    refine { clock := hview, current := congrArg (Option.map GuideEvent.untitled) ?_ }
    simp only [State.currentOf, State.current, ← hnow']
    rfl
  · rw [heq]
    exact State.Prepares.minute hset
  · rw [heq]
    exact State.Prepares.minute (hset.latch (by simp))

/-! ### Purchases (R107, R109) -/

theorem find?_filterMap_same {α : Type} {f : α → Option α} {P : α → Bool} {l : List α}
    (same : ∀ a ∈ l, P a = true → f a = some a) (from_ : ∀ a ∈ l, ∀ b, f a = some b → P b = true → P a = true) :
    (l.filterMap f).find? P = l.find? P := by
  induction l with
  | nil => rfl
  | cons a l ih =>
    have ih := ih (fun b hb => same b (List.mem_cons_of_mem _ hb)) fun b hb => from_ b (List.mem_cons_of_mem _ hb)
    by_cases ha : P a = true
    · rw [List.filterMap_cons_some (same a (List.mem_cons_self ..) ha), List.find?_cons_of_pos ha, List.find?_cons_of_pos ha]
    · rw [List.find?_cons_of_neg ha, ← ih]
      cases hf : f a with
      | none => rw [List.filterMap_cons_none hf]
      | some b =>
        rw [List.filterMap_cons_some hf]
        exact List.find?_cons_of_neg fun hb => ha (from_ a (List.mem_cons_self ..) b hf hb)

theorem Purchasing.recordFor_filterMap {e e' : Purchasing} {f : Purchase → Option Purchase} {ch id : Nat}
    (hlog : e'.log = e.log.filterMap f) (same : ∀ p ∈ e.log, p.service = ch → f p = some p)
    (service : ∀ p ∈ e.log, ∀ q, f p = some q → q.service = p.service) :
    e'.recordFor ch id = e.recordFor ch id := by
  unfold Purchasing.recordFor
  rw [hlog]
  refine find?_filterMap_same (fun p hp hP => same p hp ?_) fun p hp q hq hQ => ?_
  · simp only [Bool.and_eq_true, beq_iff_eq] at hP
    exact hP.1
  · by_cases hch : p.service = ch
    · rw [same p hp hch] at hq
      obtain rfl := Option.some.inj hq
      exact hQ
    · simp only [Bool.and_eq_true, beq_iff_eq] at hQ
      exact absurd ((service p hp q hq).symm.trans hQ.1) hch

theorem Purchase.acknowledge_of_not_acked {p : Purchase} {n : Nat} {now : Option Nat} (h : p.ackedBy n = false) :
    p.acknowledge n now = some p := by
  unfold Purchase.acknowledge
  simp only [h, Bool.false_eq_true, if_false]

theorem State.takePurack_closing (n : Nat) (s : State) : State.Closing c s (s.takePurack n) := by
  obtain ⟨m, hmark, -, -, hnone, hsome⟩ := s.takePurack_cases n
  have hview (o : OutputId) (ho : ∀ p ∈ s.ep.log, p.ackedBy n = true → s.ou[o].channel ≠ some p.service) :
      s.SameView (s.acknowledged n) o := by
    refine { bought := fun ch id hch => congrArg (Option.map Purchase.state) ?_ }
    refine Purchasing.recordFor_filterMap (f := Purchase.acknowledge n s.now) rfl (fun p hp hservice => ?_) fun p _ q hq =>
      ?_
    · refine Purchase.acknowledge_of_not_acked (Bool.eq_false_iff.2 fun hacked => ho p hp hacked ?_)
      rw [hch, hservice]
    · obtain ⟨rfl, -⟩ | ⟨-, -, rfl⟩ := Purchase.acknowledge_eq_some.1 hq <;> rfl
  have hprepares {os : List OutputId} (hos : ∀ o, o ∉ os → s.ou[o].mode = .active →
      ∀ p ∈ s.ep.log, p.ackedBy n = true → s.ou[o].channel ≠ some p.service) : State.Prepares c s m os :=
    (State.Prepares.of_view (hlatches := fun _ => .of_eq)
      (hview := fun _ o ho hactive => hview o (hos o ho hactive))).dirties hmark
  by_cases hacked : ∃ p ∈ s.ep.log, p.ackedBy n = true
  · rw [hsome hacked]
    refine (State.Prepares.latch (hprepares fun o ho hactive p hp hacked hch => ho ?_) (by simp)).report
    exact List.mem_flatMap.2 ⟨p, List.mem_filter.2 ⟨hp, hacked⟩, State.mem_outputsOn.2 ⟨hactive, hch⟩⟩
  · rw [hnone fun p hp => Bool.eq_false_iff.2 fun h => hacked ⟨p, hp, h⟩]
    exact (hprepares fun o _ _ p hp h => absurd ⟨p, hp, h⟩ hacked).report

theorem State.completeWrite_closing {w : Content} : State.Closing c s (s.completeWrite w) := by
  have hwritten : s.Agrees (s.written w) := {}
  obtain ⟨k, p, q, x, -, hin, -, -, heq⟩ | ⟨-, heq⟩ := s.completeWrite_cases w
  · rw [heq]
    refine (hwritten.prepares (.latch (.of_view (t := { s.written w with ep := { s.ep with
      log := s.ep.log.map fun y => if y = x then { y with state := .opened } else y
      lastCompleted := some x.seq } }) (hlatches := fun _ => .of_eq) (hview := fun _ o ho hactive => ?_))
      (by simp))).report
    refine { bought := fun ch id hch => congrArg (Option.map Purchase.state) ?_ }
    refine Purchasing.recordFor_filterMap (e := s.ep)
      (f := fun y => some (if y = x then { y with state := .opened } else y)) ?_ (fun y _ hservice => ?_) fun y _ z hz => ?_
    · exact (congrFun (List.filterMap_eq_map (f := fun y : Purchase => if y = x then { y with state := .opened } else y))
        s.ep.log).symm
    · have hne : y ≠ x := by
        rintro rfl
        exact ho (State.mem_outputsOn.2 ⟨hactive, hch.trans (congrArg some hservice.symm)⟩)
      rw [if_neg hne]
    · obtain rfl := Option.some.inj hz
      split_ifs <;> rfl
  · rw [heq]
    exact (State.Prepares.quiet hwritten).report

end

section
variable {c : Instr} {s x t : State} {os : List OutputId}

/-! ### Packets -/

/-- A commit decides every room; an output in standby keeps its record (R54, R55). -/
theorem State.commitMap_closing (m : Lineup) (running : s.phase = .running) : State.Closing c s (s.commitMap m) := by
  have hrewires := ((({ s with cm := { committed := m, staging := none } } : State).markDirty .map).latch
    .mapCommitted).reResolve_rewires
  have hclears := ((({ s with cm := { committed := m, staging := none } } : State).markDirty .map).latch
    .mapCommitted).reResolve_clears
  have heq : s.commitMap m = State.finish s s.activeOutputs (((({ s with
    cm := { committed := m, staging := none } } : State).markDirty .map).latch .mapCommitted).reResolve) := rfl
  generalize hx : ((({ s with cm := { committed := m, staging := none } } : State).markDirty .map).latch
    .mapCommitted).reResolve = x at hrewires hclears heq
  obtain ⟨hphase, hcl, -, htb, -, -, -, -, hae, -⟩ := hrewires.frame
  obtain ⟨w, hpins, -⟩ := hrewires.pins
  have hlatches : s.KeepsLatches x := by
    have hset := State.KeepsLatches.latch (n := .mapCommitted) (State.KeepsLatches.of_eq (s := s) (t := s)) (by simp)
    exact ⟨by rw [hcl]; exact hset.kept, by rw [hcl]; exact hset.output⟩
  rw [heq]
  refine State.Prepares.finish ⟨State.Orderly.trans .of_pins hrewires.orderly, hae, fun _ => hlatches, fun hlaw =>
    ⟨by rw [State.TimeLaw, htb]; exact hlaw.1, fun hload => ?_, fun _ => .inr running, fun o =>
      hclears.passFormed (hlaw.formed o), fun o ho => ⟨by rw [hpins]; rfl, by rw [hpins]; rfl, .inl ⟨?_, ?_⟩⟩⟩⟩
  · rw [hphase] at hload
    cases running.symm.trans hload
  · cases hm : s.ou[o].mode with
    | standby => rfl
    | active => exact absurd (List.mem_append_right _ (State.active_mem o hm)) ho
  · exact (State.of_not_touched fun h => ho (List.mem_append_left _ h)).1

theorem State.takeSegment_closing (g : RawSegment) (running : s.phase = .running) :
    State.Closing c s (s.takeSegment g) := by
  obtain ⟨-, heq⟩ | ⟨-, -, heq⟩ | ⟨-, -, heq⟩ := s.takeSegment_cases g
  · rw [heq]
    exact (State.Prepares.quiet (.refl s)).silent
  · rw [heq]
    exact State.commitMap_closing _ running
  · rw [heq]
    exact (State.Prepares.of_view (hlatches := fun _ => .of_eq) (hview := fun _ _ _ _ => {})).silent

theorem State.takeGuide_closing (g : RawGuide) : State.Closing c s (s.takeGuide g) := by
  have hprepares (os : List OutputId) (pg : Guide) (hos : ∀ o, o ∉ os → s.ou[o].mode = .active →
      (({ s with pg := pg } : State).currentOf o).map GuideEvent.untitled =
        (s.currentOf o).map GuideEvent.untitled) : State.Prepares c s { s with pg := pg } os :=
    .of_view (hlatches := fun _ => .of_eq) (hview := fun _ o ho hactive => { current := hos o ho hactive })
  have hchanged (x : State) (o : OutputId) (hou : x.ou = s.ou) (ho : o ∉ State.programmeChanged s x)
      (hactive : s.ou[o].mode = .active) : (x.currentOf o).map GuideEvent.untitled =
        (s.currentOf o).map GuideEvent.untitled := by
    by_contra hne
    exact ho (State.mem_programmeChanged.2 ⟨by rw [hou]; exact hactive, hne⟩)
  unfold State.takeGuide
  dsimp only
  generalize s.pg.placeAll (g.events.filterMap (RawEvent.intake g.service)) s.now = placed
  split_ifs
  · exact ((hprepares _ placed.1 fun o ho hactive => hchanged _ o rfl ho hactive).latch (n := .guideFull) (by simp)).report
  · exact (hprepares _ placed.1 fun o ho hactive => hchanged _ o rfl ho hactive).report

theorem State.pinReset_closing (s : State) : State.Closing c s s.pinReset := by
  have hmark : ({ s with pc := { s.pc with
      record := { s.pc.record with pin := none, attempts := 0, lockout := 0 }
      passes := Vector.replicate 4 none } } : State).Dirties
        (s.setPinRecord { s.pc.record with pin := none, attempts := 0, lockout := 0 }).endPasses :=
    (s.setPinRecord_dirties { s.pc.record with pin := none, attempts := 0, lockout := 0 }).endPasses
  unfold State.pinReset
  dsimp only
  split_ifs with hsame
  · rw [hsame]
    have hunset : s.pinState = .unset := by
      rw [State.pinState, ← hsame]
      rfl
    rw [hsame] at hmark
    have hnone (o : OutputId) : (Vector.replicate 4 none : Vector (Option Pass) 4)[o] = none := Vector.getElem_replicate _
    have hprepares : State.Prepares c s { s with pc := { s.pc with
        record := s.pc.record, passes := Vector.replicate 4 none } } [] :=
      .of_view (hlatches := fun _ => .of_eq) (hview := fun _ o _ _ => { pass := .inr ⟨hunset, hnone o⟩ })
        (hpasses := fun _ o q hq => by cases (hnone o).symm.trans hq)
    exact (hprepares.dirties hmark).report
  · exact (State.allEnded_prepares (s := s) rfl hmark).report

/-- Every packet makes its changes and closes its event (R180). -/
theorem Taking.closing (h : Taking c s x) (running : s.phase = .running) : State.Closing c s x := by
  cases h with
  | ignored => exact (State.Prepares.quiet (.refl s)).silent
  | time _ v day second => exact State.takeTime_closing day second
  | map _ g => exact State.takeSegment_closing g running
  | guide _ g => exact State.takeGuide_closing g
  | entitlements _ _ _ e =>
    have hprepares : State.Prepares c s { s with ep := { s.ep with ent := e } } s.activeOutputs :=
      .of_view (hlatches := fun _ => .of_eq) (hview := fun _ o ho hactive => absurd (State.active_mem o hactive) ho)
    exact ((hprepares.dirties (State.markDirty_dirties _ _)).latch (by simp)).report
  | purack _ n => exact s.takePurack_closing n
  | group _ g =>
    have hset : s.Agrees { s with hf := { s.hf with setup := { s.hf.setup with group := g } } } := {}
    exact (State.Prepares.quiet ((hset.trans (State.markDirty_dirties _ _).agrees).trans
      (State.startWrite_agrees _))).silent
  | master _ level digits =>
    have hprepares : State.Prepares .master s { s with pc := { s.pc with record := { s.pc.record with
        level := level, master := digits } } } [] :=
      .of_view (hlatches := fun _ => .of_eq) (hview := fun _ _ _ _ => {})
    exact ((hprepares.dirties (State.markDirty_dirties _ _)).agrees (State.startWrite_agrees _)).silent
  | pinreset => exact s.pinReset_closing

/-! ### Every command -/

theorem State.portFault_prepares (f : FeedFault) (h : HeadendFeed) : State.Prepares c s (s.portFault f h) os :=
  State.Prepares.latch (.quiet (t := { s with hf := { h with lastFault := some f } }) {}) (by simp)

theorem State.edge_prepares (fd : Byte) (b : Bool) (h : HeadendFeed) : State.Prepares c s (s.edge fd b h) os := by
  unfold State.edge
  split <;> split_ifs
  · exact .quiet {}
  · exact s.portFault_prepares _ _
  · exact .quiet {}
  · exact s.portFault_prepares _ _
  · exact .quiet {}
  · exact s.portFault_prepares _ _

theorem State.Prepares.emit {e : PinEvent} (h : State.Prepares c s x os)
    (he : ∀ p d, waveLawful p d [e] = true ∧ gatesAfter p d [e] = (p, d)) : State.Prepares c s (x.emit e) os where
  orderly := h.orderly.trans ⟨[e], rfl, (he _ _).1, (he _ _).2⟩
  ae := h.ae
  latches hc := ⟨(h.latches hc).kept, (h.latches hc).output⟩
  ready hlaw := by
    obtain ⟨htime, hloading, halive, hformed, hunmoved⟩ := h.ready hlaw
    exact ⟨htime, hloading, halive, hformed, fun o ho => (hunmoved o ho).trans ⟨rfl, rfl, .inr {}⟩⟩

theorem ControlLink.receive_latches (l : ControlLink) (loading : Bool) (ch : Character) :
    (l.receive loading ch).latches = l.latches := by
  cases ch with
  | framingError => rfl
  | byte b =>
    rcases h : l.parser.feed b with ⟨p, - | r⟩
    · rw [ControlLink.receive_partial h]
    · rw [ControlLink.receive_whole h, ControlLink.completeFrame]
      split_ifs <;> rfl

/-- At the load end every output is in standby (R206). -/
theorem State.endLoad_prepares (loading : s.phase = .loading) : State.Prepares c s s.endLoad [] := by
  obtain ⟨dirty, engine, hrest⟩ := s.endLoad_rest
  have hset := State.KeepsLatches.latch (n := .ready) (State.KeepsLatches.of_eq (s := s) (t := s)) (by simp)
  rw [hrest]
  exact ⟨.of_pins, rfl, fun _ => ⟨hset.kept, hset.output⟩, fun hlaw => ⟨hlaw.1, nofun, fun _ => .inl loading,
    hlaw.formed, fun o _ => ⟨rfl, rfl, .inl ⟨hlaw.2.1 loading o, rfl⟩⟩⟩⟩

/-- The restart leaves fresh blocks (R195). -/
theorem State.restart_isFresh (r : Reply) (rest : List Reply) (s : State) :
    s.Fresh (({ s with cl := { s.cl with transmit := rest } } : State).emit (.reply r.frame)).restartPart := by
  obtain ⟨cl, hf, cm, tp, ou, pg, ep, pc, ae, ss, pending, phase⟩ := State.resetAll_isFresh .restart s.tb
    (({ s with cl := { s.cl with transmit := rest } } : State).emit (.reply r.frame))
  exact ⟨cl, hf, cm, tp, ou, pg, ep, pc, ae, ss, pending, phase⟩

/-- A part that has been reset, or has lost its supply: its blocks are fresh, its gates off. -/
structure State.Resets (s t : State) : Prop where
  fresh : s.Fresh t
  time : t.tb = .initial ∨ t.tb = s.tb
  dark : ∀ o : OutputId, t.pins.picture[o] = false ∧ t.pins.descramble[o] = false
  pins : s.PinLaw → t.PinLaw

theorem State.resetAll_isReset {m : State} (cause : ResetCause) {tb : TimeBase} (htb : tb = .initial ∨ tb = s.tb)
    (hm : s.Orderly m) (fresh : s.Fresh (m.resetAll cause tb)) : s.Resets (m.resetAll cause tb) where
  fresh := fresh
  time := by
    rw [State.resetAll_tb]
    exact htb
  dark := State.darken_gates _
  pins := ((hm.trans .of_pins).trans (State.darken_orderly (m.freshBlocks cause tb))).pinLaw

/-- What every command does: a reset or a loss of supply, the assertion of RESET, or changes and the close of their
event. -/
theorem Does.closing (h : Does c s t) :
    (s.Resets t ∧ s.mayReset c = true) ∨ ((s.phase = .loading ∨ s.phase = .running) ∧ t = s.assertReset) ∨
      State.Closing c s t := by
  cases h with
  | nothing => exact .inr (.inr (State.Prepares.quiet (.refl s)).silent)
  | powerOn => exact .inl ⟨State.resetAll_isReset .powerOn (.inl rfl) .of_pins (s.resetAll_isFresh _ _), rfl⟩
  | powerLoss =>
    exact .inl ⟨⟨s.losePower_isFresh, .inl rfl, fun o => ⟨Vector.getElem_replicate _, Vector.getElem_replicate _⟩,
      fun _ => ⟨rfl, rfl⟩⟩, rfl⟩
  | assertReset _ h => exact .inr (.inl ⟨h, rfl⟩)
  | releaseReset => exact .inl ⟨State.resetAll_isReset .resetLine (.inl rfl) .of_pins (s.resetAll_isFresh _ _), rfl⟩
  | loadEnd _ h => exact .inr (.inr (State.endLoad_prepares h).silent)
  | tick _ h =>
    refine .inr (.inr (State.Prepares.of_view (hlatches := fun _ => .of_eq) (htime := State.TimeLaw.tick)
      (hview := fun hlaw o _ hactive => ?_)).silent)
    rcases h with hload | ⟨-, hdue⟩
    · rw [hlaw.2.1 hload o] at hactive
      cases hactive
    · have hclock := TimeBase.tick_view hdue
      refine { clock := hclock, current := congrArg (Option.map GuideEvent.untitled) ?_ }
      have hnow : ({ s with tb := s.tb.tick } : State).now = s.now := by
        rw [State.now_eq_view, State.now_eq_view]
        exact congrArg _ hclock
      simp only [State.currentOf, State.current, hnow]
  | minute _ _ =>
    exact .inr (.inr (State.Prepares.minute (.of_view (hlatches := fun _ => .of_eq) (htime := State.TimeLaw.tick)
      (hview := fun _ o ho hactive => absurd (State.active_mem o hactive) ho))))
  | receive ch =>
    have hagrees : s.Agrees { s with cl := s.cl.receive (s.phase == .loading) ch } :=
      { latches := ControlLink.receive_latches _ _ _ }
    exact .inr (.inr (State.Prepares.quiet hagrees).silent)
  | gapExpiry => exact .inr (.inr (State.Prepares.quiet {}).silent)
  | replySent _ r rest => exact .inr (.inr (State.Prepares.emit (.quiet (t := { s with cl := { s.cl with
      transmit := rest } }) {}) (e := .reply r.frame) (fun _ _ => ⟨rfl, rfl⟩)).silent)
  | restart _ r rest _ _ own =>
    have hm : s.Orderly (({ s with cl := { s.cl with transmit := rest } } : State).emit (.reply r.frame)) :=
      ⟨[.reply r.frame], rfl, rfl, rfl⟩
    refine .inl ⟨State.resetAll_isReset .restart (.inr rfl) hm (State.restart_isFresh r rest s), ?_⟩
    simp only [ControlLink.isRestartReply, Bool.and_eq_true] at own
    exact own.1.1
  | serves _ _ y r rest st body _ h _ does =>
    refine .inr (.inr ?_)
    have hagrees : s.Agrees { s with cl := { s.cl with queue := rest } } := {}
    exact (hagrees.closing (does.closing h.1)).agrees {}
  | takes _ _ _ _ h does =>
    refine .inr (.inr ?_)
    have hagrees : s.Agrees s.packetGone := {}
    exact hagrees.closing (does.closing h.1)
  | edgeOpen => exact .inr (.inr (s.edge_prepares _ _ _).silent)
  | edgeClosed => exact .inr (.inr (State.Prepares.quiet {}).silent)
  | releaseTakes => exact .inr (.inr (State.Prepares.quiet {}).silent)
  | release => exact .inr (.inr (State.Prepares.quiet {}).silent)
  | timeout => exact .inr (.inr (s.portFault_prepares _ _).silent)
  | byteRead => exact .inr (.inr (State.Prepares.quiet {}).silent)
  | gapMark => exact .inr (.inr (State.Prepares.quiet {}).silent)
  | silent => exact .inr (.inr (State.Prepares.latch (.quiet (t := { s with hf := { s.hf with silence := false } }) {}) (by simp)).silent)
  | tunerMoves _ _ u x running =>
    exact .inr (.inr (State.Prepares.rewired (s.setTuner_allots u x).rewires running (fun hlaw => hlaw.formed)
      fun _ _ => rfl).finish)
  | tunerFaults _ _ u x running =>
    have hprepares : State.Prepares c s (s.setTuner u x) (State.touched s (s.setTuner u x) ++ []) :=
      .rewired (s.setTuner_allots u x).rewires running (fun hlaw => hlaw.formed) fun _ _ => rfl
    exact .inr (.inr (hprepares.latch (n := .tunerFault u) (by simp)).finish)
  | tunerLoads _ _ u x running =>
    have hallots := s.loadDivisor_allots u x
    have hpc : (s.loadDivisor u x).pc = s.pc := by rw [hallots.rest]
    exact .inr (.inr (State.Prepares.rewired hallots.rewires running
      (fun hlaw o => hallots.clears.passFormed (hlaw.formed o)) fun _ _ => by rw [hpc]).finish)
  | writeDone => exact .inr (.inr s.completeWrite_closing)

end

end Sys2Proof.Machine

/-! PROOF. Every step keeps the gate order at the pins, the decisions current, and the latches: O3, O4 and O15. -/

namespace Sys2Proof.Machine

section
variable {c : Instr} {s t : State}

theorem State.Agrees.pinLaw (h : s.Agrees t) (k : s.PinLaw) : t.PinLaw := by
  rw [State.PinLaw, h.pins]
  exact k

theorem Does.keeps_pinLaw (h : Does c s t) (k : s.PinLaw) : t.PinLaw := by
  obtain ⟨hreset, -⟩ | ⟨-, rfl⟩ | ⟨x, os, hprepares, hagrees⟩ := h.closing
  · exact hreset.pins k
  · exact s.assertReset_orderly.pinLaw k
  · exact hagrees.pinLaw ((hprepares.orderly.trans (x.report_orderly os)).pinLaw k)

/-- Settles O3, by the order of the pin moves in each operation. -/
theorem stepsKeepTheGateOrderAtThePins : Obligations.StepsKeepTheGateOrderAtThePins :=
  fun _ _ hs h => step_keeps (P := State.PinLaw) (fun _ _ k => k) (fun _ _ _ h k => h.keeps_pinLaw k) hs h

/-! ### Decisions -/

/-- A part that has been reset is in standby, and its records say so. -/
theorem State.Resets.decisionLaw (h : s.Resets t) (k : s.DecisionLaw) : t.DecisionLaw := by
  have hou (o : OutputId) : t.ou[o] = .initial := by rw [h.fresh.ou]; exact Vector.getElem_replicate _
  have hstandby (o : OutputId) : t.ou[o].mode = .standby := by rw [hou]; rfl
  have hpass (o : OutputId) : t.pc.passes[o] = none := by rw [h.fresh.pc]; exact Vector.getElem_replicate _
  have hae (o : OutputId) : t.ae[o] = .initial := by rw [h.fresh.ae]; exact Vector.getElem_replicate _
  refine ⟨?_, fun _ => hstandby, fun o => ?_, fun _ o => ?_⟩
  · rcases h.time with htb | htb
    · rw [State.TimeLaw, htb]
      exact ⟨Nat.zero_le _, nofun⟩
    · rw [State.TimeLaw, htb]
      exact k.1
  · rw [State.passLawful, hpass]
  · obtain ⟨hpicture, hdescramble⟩ := h.dark o
    rw [State.decisionRecord_standby (hstandby o), State.route, hou, hae, hpicture, hdescramble]
    exact ⟨rfl, rfl, rfl⟩

theorem State.assertReset_decisionLaw (k : s.DecisionLaw) : s.assertReset.DecisionLaw := by
  obtain ⟨htime, -, hpasses, -⟩ := k
  have hrest := s.assertReset_rest.rest
  generalize s.assertReset = t at hrest
  rw [hrest]
  exact ⟨htime, nofun, hpasses, fun h => by rcases h with h | h <;> cases h⟩

theorem Does.keeps_decisionLaw (h : Does c s t) (k : s.DecisionLaw) : t.DecisionLaw := by
  obtain ⟨hreset, -⟩ | ⟨-, rfl⟩ | ⟨x, os, hprepares, hagrees⟩ := h.closing
  · exact hreset.decisionLaw k
  · exact State.assertReset_decisionLaw k
  · exact hagrees.decisionLaw ((hprepares.ready k).decisionLaw hprepares.ae k)

/-- Settles O4: every command leaves the state ready for the evaluations of its close. -/
theorem stepsKeepDecisionsCurrent : Obligations.StepsKeepDecisionsCurrent :=
  fun _ _ hs h => step_keeps (P := State.DecisionLaw) (fun _ _ k => k) (fun _ _ _ h k => h.keeps_decisionLaw k) hs h

/-! ### Latches -/

/-- Settles O15: the close of an event latches OUTPUT_STATE, and no change before it does. -/
theorem latchesStayUntilTakenOrReset : Obligations.LatchesStayUntilTakenOrReset := by
  intro c s t h htake hreset
  obtain ⟨-, hyes⟩ | ⟨-, rfl⟩ | ⟨x, os, hprepares, hagrees⟩ := (does_of_exec h).closing
  · rw [hreset] at hyes
    cases hyes
  · have hrest := s.assertReset_rest.rest
    generalize s.assertReset = t at hrest
    rw [hrest]
    exact ⟨fun n hn => hn, fun o => (or_iff_left fun hno => hno (.refl _)).symm⟩
  · obtain ⟨hkept, houtput⟩ := hprepares.latches htake
    have hset (n : Notice) : t.cl.isSet n = (x.report os).cl.isSet n := by
      rw [ControlLink.isSet, ControlLink.isSet, hagrees.latches]
    refine ⟨fun n hn => ?_, fun o => ?_⟩
    · rw [hset]
      exact (x.report_closes os).2.2.1 n (mem_allNotices n) (hkept n hn)
    · rw [hset, hagrees.ae, ← houtput, ← hprepares.ae]
      exact (x.report_latches os o).iff

end

end Sys2Proof.Machine

/-! PROOF. The PIN record keeps its laws: O7. -/

namespace Sys2Proof.Machine

section
variable {r : PinRecord}

/-- Outside a lockout. -/
theorem PinRecord.lockout_of_state (h : r.state ≠ .lockedOut) : r.lockout = 0 := by
  by_contra hne
  exact h (by rw [PinRecord.state, if_pos (Nat.pos_of_ne_zero hne)])

theorem PinRecord.law_initial : PinRecord.initial.Law :=
  ⟨.inl (by decide), by decide, by decide, fun _ => ⟨rfl, rfl⟩, nofun, nofun⟩

/-- The counts at rest. -/
theorem PinRecord.Law.rested (h : r.Law) (hlock : r.lockout = 0) : ({ r with attempts := 0 } : PinRecord).Law := by
  obtain ⟨-, -, -, -, hpin, hmaster⟩ := h
  exact ⟨.inl (Nat.zero_le _), fun hpos => absurd hlock hpos.ne', hlock.trans_le (Nat.zero_le _), fun _ => ⟨rfl, hlock⟩, hpin, hmaster⟩

theorem PinRecord.Law.newPin (h : r.Law) (hlock : r.lockout = 0) {new : List Nat} (hnew : newPinOk new = true) :
    ({ r with pin := some new, attempts := 0 } : PinRecord).Law := by
  obtain ⟨-, -, -, -, -, hmaster⟩ := h
  refine ⟨.inl (Nat.zero_le _), fun hpos => absurd hlock hpos.ne', hlock.trans_le (Nat.zero_le _), nofun, ?_, hmaster⟩
  rintro _ ⟨⟩
  exact newPinOk_iff.1 hnew

theorem PinRecord.Law.noPin (h : r.Law) (hlock : r.lockout = 0) :
    ({ r with pin := none, attempts := 0 } : PinRecord).Law := by
  obtain ⟨-, -, -, -, -, hmaster⟩ := h
  exact ⟨.inl (Nat.zero_le _), fun hpos => absurd hlock hpos.ne', hlock.trans_le (Nat.zero_le _), fun _ => ⟨rfl, hlock⟩, nofun, hmaster⟩

theorem PinRecord.Law.cleared (h : r.Law) : ({ r with pin := none, attempts := 0, lockout := 0 } : PinRecord).Law := by
  obtain ⟨-, -, -, -, -, hmaster⟩ := h
  exact ⟨.inl (Nat.zero_le _), nofun, Nat.zero_le _, fun _ => ⟨rfl, rfl⟩, nofun, hmaster⟩

theorem PinRecord.Law.minute (h : r.Law) : r.minute.Law := by
  obtain ⟨hattempts, hfive, hlock, hnone, hpin, hmaster⟩ := h
  unfold PinRecord.minute
  split_ifs with hrest hlast
  · exact ⟨hattempts, hfive, hlock, hnone, hpin, hmaster⟩
  · exact ⟨.inl (Nat.zero_le _), by simp [hlast], by simp [hlast], fun _ => ⟨rfl, by simp [hlast]⟩, hpin, hmaster⟩
  · have hpos : 0 < r.lockout := Nat.pos_of_ne_zero hrest
    refine ⟨.inr (Nat.sub_pos_of_lt (by omega)), fun _ => hfive hpos, (Nat.sub_le _ _).trans hlock, fun h => ?_, hpin, hmaster⟩
    exact absurd (hnone h).2 hrest

/-- A wrong PIN counted in ARMED (R126). -/
theorem PinRecord.Law.wrong (h : r.Law) (hlock : r.lockout = 0) (hpin : r.pin ≠ none) :
    ({ r with attempts := r.attempts + 1
              lockout := if 5 ≤ r.attempts + 1 then 15 else r.lockout } : PinRecord).Law := by
  obtain ⟨hattempts, -, -, -, hdigits, hmaster⟩ := h
  have hfew : r.attempts ≤ 4 := hattempts.resolve_right fun hpos => absurd hlock hpos.ne'
  split_ifs with hfive
  · exact ⟨.inr (Nat.succ_pos 14), fun _ => (show r.attempts + 1 = 5 by omega), le_refl _, fun hnone => absurd hnone hpin, hdigits, hmaster⟩
  · exact ⟨.inl (show r.attempts + 1 ≤ 4 by omega), fun hpos => absurd hlock hpos.ne', hlock.trans_le (Nat.zero_le _),
      fun hnone => absurd hnone hpin, hdigits, hmaster⟩

end

section
variable {c : Instr} {s x t : State}

theorem State.countWrong_record (s : State) : s.countWrong.pc.record =
    { s.pc.record with
      attempts := s.pc.record.attempts + 1
      lockout := if 5 ≤ s.pc.record.attempts + 1 then 15 else s.pc.record.lockout } := by
  unfold State.countWrong
  dsimp only [Config.maxAttempts, Config.lockoutMinutes]
  split_ifs <;> simp

theorem State.decidePay_not_parental (ch : Nat) (why : ParentalReason) : s.decidePay ch ≠ .blockedParental why := by
  unfold State.decidePay
  split
  · split_ifs
    · nofun
    · split
      all_goals nofun
    · split
      all_goals nofun
  · nofun

theorem State.decideEntitled_not_parental (e : MapEntry) (why : ParentalReason) :
    s.decideEntitled e ≠ .blockedParental why := by
  unfold State.decideEntitled
  split
  · nofun
  · split_ifs <;> nofun
  · exact State.decidePay_not_parental _ why

/-- In UNSET no room is BLOCKED_PARENTAL (R123). -/
theorem State.decideAttached_not_parental (hunset : s.pinState = .unset) (o : OutputId) (ch : Nat) (u : TunerId)
    (why : ParentalReason) : (s.decideAttached o ch u).1 ≠ .blockedParental why := by
  have htest : s.parentalTest o ch = .notApplied := by simp only [State.parentalTest, hunset]
  unfold State.decideAttached
  split_ifs
  · nofun
  · split
    · nofun
    · nofun
    · nofun
    · nofun
    · split
      · nofun
      · rw [htest]
        exact State.decideEntitled_not_parental _ why

theorem State.not_parental_of_unset (hlaw : s.DecisionLaw) (running : s.phase = .running)
    (hunset : s.pinState = .unset) (o : OutputId) : s.ae[o].decision.isParental = false := by
  rw [Bool.eq_false_iff]
  intro hparental
  obtain ⟨why, hwhy⟩ := Decision.isParental_iff.1 hparental
  rw [(hlaw.2.2.2 (.inr running) o).1] at hwhy
  have hdecide : (s.decideOutput o).1 = .blockedParental why := hwhy
  unfold State.decideOutput at hdecide
  split at hdecide
  · cases hdecide
  · split at hdecide
    · cases hdecide
    · split at hdecide
      · exact State.decideAttached_not_parental hunset _ _ _ why hdecide
      · cases hdecide
      · cases hdecide

theorem State.Passed.record (h : s.Passed x) (k : s.pc.record.Law) : x.pc.record.Law := by
  obtain rfl | ⟨hlock, rfl⟩ := h
  · exact k
  · have hrecord : s.acceptPin.pc.record = { s.pc.record with attempts := 0 } := by simp [State.acceptPin]
    rw [hrecord]
    exact k.rested (PinRecord.lockout_of_state hlock)

theorem Serving.record {st : Status} (h : Serving c s x st) (k : s.pc.record.Law) (hlaw : s.DecisionLaw)
    (running : s.phase = .running) : x.pc.record.Law := by
  cases h with
  | select _ _ o ch e y _ _ _ _ served =>
    obtain ⟨-, -, -, -, -, -, -, -, -, -, -, -, -, hrec, -⟩ := (State.allocate_allots served).rewires.frame
    simpa [State.setChannel, State.setPass, hrec] using k
  | wrongPin _ _ _ judged =>
    obtain harmed | ⟨hunset, o, ho⟩ := judged
    · rw [s.countWrong_record]
      exact k.wrong (PinRecord.state_armed harmed).1 (PinRecord.state_armed harmed).2
    · rw [State.not_parental_of_unset hlaw running hunset o] at ho
      cases ho
  | firstPin _ new formed _ unset =>
    have hlock : s.pc.record.lockout = 0 := PinRecord.lockout_of_state (by rw [← State.pinState, unset]; nofun)
    simpa using k.newPin hlock formed
  | newPin _ new formed _ armed => simpa using k.newPin (PinRecord.state_armed armed).1 formed
  | pinClear _ _ armed => simpa [State.clearPin, State.endPasses] using k.noPin (PinRecord.state_armed armed).1
  | masterClear _ _ armed =>
    have hrecord : s.masterClear.pc.record = { s.pc.record with pin := none, attempts := 0 } := rfl
    simpa [hrecord] using k.noPin (PinRecord.state_armed armed).1
  | pinEnter _ o sc p _ _ _ judged => simpa [State.acceptPin] using k.rested (PinRecord.lockout_of_state judged)
  | profileSet _ y p v _ passed => simpa [State.setProfile] using passed.record k
  | bind _ y o p _ passed =>
    have hrecord : (y.bindOutput o p).pc.record = y.pc.record := by
      unfold State.bindOutput
      split_ifs <;> simp
    rw [hrecord]
    exact passed.record k
  | buyRefused _ y _ passed => simpa using passed.record k
  | buy _ y service n e passed =>
    have hrecord : (y.acceptBuy service n e).pc.record = y.pc.record := by
      rw [State.acceptBuy_eq]
      dsimp only
      split_ifs <;> simp [State.bought]
    rw [hrecord]
    exact passed.record k
  | tunerSetup _ v =>
    rw [(State.setIf_frame v s).1]
    exact k
  | _ => simpa using k

theorem Taking.record (h : Taking c s x) (k : s.pc.record.Law) : x.pc.record.Law := by
  cases h with
  | time _ v =>
    obtain ⟨-, -, -, heq⟩ | heq | heq := s.takeTime_cases v <;> rw [heq]
    · exact k
    · simpa using k.minute
    · simpa using k.minute
  | master _ level digits formed =>
    obtain ⟨hattempts, hfive, hlock, hnone, hpin, -⟩ := k
    simpa using ⟨hattempts, hfive, hlock, hnone, hpin, formed⟩
  | pinreset => simpa using k.cleared
  | _ => simpa using k

theorem Does.record (h : Does c s t) (k : s.PinRecordLaw) (hlaw : s.DecisionLaw) : t.pc.record.Law := by
  obtain ⟨hnow, hstored, -⟩ := k
  have hfresh (h : s.Fresh t) : t.pc.record.Law := by
    rw [h.pc]
    exact PinRecord.law_initial
  cases h with
  | powerOn => exact hfresh (s.resetAll_isFresh _ _)
  | powerLoss => exact hfresh s.losePower_isFresh
  | releaseReset => exact hfresh (s.resetAll_isFresh _ _)
  | restart _ r rest => exact hfresh (State.restart_isFresh r rest s)
  | assertReset => rw [s.assertReset_rest.rest]; exact hnow
  | loadEnd =>
    cases hr : readRecord s.ss.records.pin with
    | none => simpa [State.takeRecords, hr] using PinRecord.law_initial
    | some r => simpa [State.takeRecords, hr] using hstored r hr
  | minute => simpa using hnow.minute
  | serves _ _ _ r rest _ _ _ h _ does => exact does.record hnow hlaw h.1
  | takes _ _ _ _ _ does => exact does.record hnow
  | edgeOpen => rw [State.edge_frame]; exact hnow
  | _ => simpa [State.portFault] using hnow

theorem Does.keeps_pinRecordLaw (h : Does c s t) (k : s.PinRecordLaw) (hlaw : s.DecisionLaw) : t.PinRecordLaw := by
  have hnow := h.record k hlaw
  obtain ⟨-, hstored, hengine⟩ := k
  refine ⟨hnow, ?_, h.engine_forall hengine fun r q hq => ?_⟩
  · obtain heq | ⟨w, hw, heq⟩ := h.records <;> rw [heq]
    · exact hstored
    · cases w with
      | pin r =>
        simp only [Records.store, readRecord_written]
        rintro q ⟨⟩
        exact hengine _ hw r rfl
      | _ => exact hstored
  · cases r <;> simp only [State.supply, Content.pin?, Option.mem_def, Option.some.injEq, reduceCtorEq] at hq
    exact hq ▸ hnow

/-- Settles O7, by what each command makes of the record, and what the engine carries. -/
theorem stepsKeepThePinRecordLawful : Obligations.StepsKeepThePinRecordLawful := by
  intro s t hs hlaw h
  obtain ⟨hkept, -⟩ := step_keeps (P := fun s => s.PinRecordLaw ∧ s.DecisionLaw) (fun _ _ k => k)
    (fun _ _ _ h k => ⟨h.keeps_pinRecordLaw k.1 k.2, h.keeps_decisionLaw k.2⟩) ⟨hs, hlaw⟩ h
  exact hkept

end

end Sys2Proof.Machine

/-! PROOF. The tuner records keep the table of R17: O5. -/

namespace Sys2Proof.Machine

/-! ### What the arbiter makes of the tuners -/

/-- Each tuner keeps its record, goes IDLE, or starts on a carrier of the map. -/
structure State.Tunes (s t : State) : Prop where
  ifKHz : t.tp.ifKHz = s.tp.ifKHz
  cm : t.cm = s.cm
  tuner : ∀ u : TunerId, t.tp.tuners[u] = s.tp.tuners[u] ∨ t.tp.tuners[u] = .idle ∨
    ∃ e ∈ s.cm.committed.entries, t.tp.tuners[u] = acquisition e.carrier s.tp.ifKHz

section
variable {s t x : State} {o : OutputId} {u w : TunerId} {e : MapEntry}

theorem State.Tunes.of_tuners (htuners : t.tp.tuners = s.tp.tuners) (hif : t.tp.ifKHz = s.tp.ifKHz) (hcm : t.cm = s.cm) :
    s.Tunes t := ⟨hif, hcm, fun u => .inl (by rw [htuners])⟩

theorem State.Tunes.refl (s : State) : s.Tunes s := .of_tuners rfl rfl rfl

theorem State.Tunes.trans (h : s.Tunes t) (k : t.Tunes x) : s.Tunes x := by
  refine ⟨k.ifKHz.trans h.ifKHz, k.cm.trans h.cm, fun u => ?_⟩
  rcases k.tuner u with ku | ku | ⟨e, he, ku⟩
  · rw [ku]
    exact h.tuner u
  · exact .inr (.inl ku)
  · rw [h.cm] at he
    rw [h.ifKHz] at ku
    exact .inr (.inr ⟨e, he, ku⟩)

theorem State.Tunes.foldl {α : Type} {f : State → α → State} (h : ∀ (s : State) (a : α), s.Tunes (f s a)) (l : List α)
    (s : State) : s.Tunes (l.foldl f s) :=
  foldl_related Tunes.refl Tunes.trans h l s

theorem State.setTuner_same (u : TunerId) (y : Tuner) (s : State) : (s.setTuner u y).tp.tuners[u] = y :=
  Vector.getElem_set_self _

theorem State.setTuner_other (h : w ≠ u) (y : Tuner) (s : State) : (s.setTuner u y).tp.tuners[w] = s.tp.tuners[w] :=
  Vector.getElem_set_ne u.isLt w.isLt fun e => h (Fin.ext e.symm)

theorem State.loadDivisor_tp (u : TunerId) (y : Tuner) (s : State) : (s.loadDivisor u y).tp = (s.setTuner u y).tp := by
  unfold State.loadDivisor
  dsimp only
  split <;> rfl

theorem State.acquire_same (u : TunerId) (c : Nat) (s : State) :
    (s.acquire u c).tp.tuners[u] = acquisition c s.tp.ifKHz := by
  rw [State.acquire, State.loadDivisor_tp]
  exact State.setTuner_same _ _ _

theorem State.acquire_other (h : w ≠ u) (c : Nat) (s : State) : (s.acquire u c).tp.tuners[w] = s.tp.tuners[w] := by
  rw [State.acquire, State.loadDivisor_tp]
  exact State.setTuner_other h _ _

theorem State.attach_tunes (o : OutputId) (a : Attachment) (s : State) : s.Tunes (s.attach o a) := .of_tuners rfl rfl rfl

theorem State.idle_tunes (u : TunerId) (s : State) : s.Tunes (s.setTuner u .idle) := by
  refine ⟨rfl, rfl, fun w => ?_⟩
  by_cases hw : w = u
  · subst hw
    exact .inr (.inl (s.setTuner_same w _))
  · exact .inl (State.setTuner_other hw _ s)

theorem State.acquire_tunes (he : e ∈ s.cm.committed.entries) : s.Tunes (s.acquire u e.carrier) := by
  have hframe := (s.loadDivisor_allots u (acquisition e.carrier s.tp.ifKHz)).rewires.frame
  obtain ⟨-, -, -, -, hcm, hif, -⟩ := hframe
  refine ⟨hif, hcm, fun w => ?_⟩
  by_cases hw : w = u
  · subst hw
    exact .inr (.inr ⟨e, he, s.acquire_same w _⟩)
  · exact .inl (State.acquire_other hw _ s)

theorem State.mem_of_entryOf (h : s.entryOf o = some e) : e ∈ s.cm.committed.entries := by
  unfold State.entryOf at h
  split at h
  · cases h
  · exact (Lineup.mem_of_resolve h).1

theorem State.attachWaiters_tunes (u : TunerId) (c : Nat) (s : State) : s.Tunes (s.attachWaiters u c) := by
  refine .foldl (fun s o => ?_) _ s
  split_ifs
  · split
    · split_ifs
      · exact s.attach_tunes o _
      · exact .refl s
    · exact .refl s
  · exact .refl s

theorem State.place_tunes (he : e ∈ s.cm.committed.entries) (c : Choice) :
    s.Tunes (s.place o e.carrier e.slot c) := by
  have start (u : TunerId) :
      s.Tunes (((s.attach o (.tuner u e.slot)).acquire u e.carrier).attachWaiters u e.carrier) :=
    ((s.attach_tunes o _).trans (State.acquire_tunes (s := s.attach o (.tuner u e.slot)) he)).trans
      (State.attachWaiters_tunes u e.carrier _)
  cases c with
  | attach u => exact s.attach_tunes o _
  | retune u => exact start u
  | start u => exact start u
  | none => exact .refl s

theorem State.serveWaiting_tunes (s : State) : s.Tunes s.serveWaiting := by
  refine .foldl (fun s o => ?_) _ s
  split_ifs
  · split
    · exact State.place_tunes (State.mem_of_entryOf ‹_›) _
    · exact .refl s
  · exact .refl s

theorem State.release_tunes (s : State) : s.Tunes s.release := by
  unfold State.release
  split_ifs
  · refine State.Tunes.trans (.foldl (fun a u => ?_) _ s) (State.serveWaiting_tunes _)
    split_ifs
    · exact a.idle_tunes u
    · exact .refl a
  · exact .refl s

theorem State.allocate_tunes (he : e ∈ s.cm.committed.entries) (h : s.allocate o e.carrier e.slot = some t) :
    s.Tunes t := by
  unfold State.allocate at h
  split at h
  · cases h
  · cases h
    exact (State.place_tunes he _).trans (State.release_tunes _)

theorem State.allocateOrWait_tunes (he : e ∈ s.cm.committed.entries) : s.Tunes (s.allocateOrWait o e) := by
  unfold State.allocateOrWait
  split
  · exact State.allocate_tunes he ‹_›
  · exact s.attach_tunes o _

theorem State.detachSet_tunes (os : List OutputId) (s : State) : s.Tunes (s.detachSet os) :=
  (Tunes.foldl (fun s o => s.attach_tunes o .none) os s).trans (State.release_tunes _)

theorem State.releaseAll_tunes (s : State) : s.Tunes s.releaseAll :=
  (Tunes.foldl (fun s o => s.attach_tunes o .none) allOutputs s).trans
    (Tunes.foldl (fun s u => s.idle_tunes u) allTuners _)

theorem State.setChannel_tunes (o : OutputId) (ch : Option Nat) (s : State) : s.Tunes (s.setChannel o ch) :=
  .of_tuners rfl rfl rfl

theorem State.setModes_tunes (m : Mode) (s : State) : s.Tunes (s.setModes m) :=
  .foldl (fun a o => .of_tuners (t := a.setOutput o { a.ou[o] with mode := m }) rfl rfl rfl) _ s

theorem State.wakeAll_tunes (s : State) : s.Tunes s.wakeAll := by
  refine (s.setModes_tunes .active).trans (.foldl (fun a o => ?_) _ _)
  unfold State.wakeOutput
  split
  · exact .refl a
  · split
    · exact a.setChannel_tunes o none
    · exact State.allocateOrWait_tunes (Lineup.mem_of_resolve ‹_›).1

theorem State.sleepAll_tunes (s : State) : s.Tunes s.sleepAll :=
  ((s.setModes_tunes .standby).trans (State.releaseAll_tunes _)).trans (.of_tuners rfl rfl rfl)

theorem State.reResolve_tunes (s : State) : s.Tunes s.reResolve := by
  refine (State.Tunes.trans (.trans (.foldl (fun a o => ?_) _ s) (State.detachSet_tunes _ _))
    (.foldl (fun a o => ?_) _ _)).trans (State.serveWaiting_tunes _)
  · unfold State.vanish
    dsimp only
    split_ifs
    · exact (a.setChannel_tunes o none).trans (State.attach_tunes o _ _)
    · exact a.setChannel_tunes o none
  · unfold State.moveOutput
    split
    · exact State.allocateOrWait_tunes (State.mem_of_entryOf ‹_›)
    · exact .refl a

end

/-! ### The table of R17 -/

theorem Tuner.law_idle : Tuner.idle.Law := by decide

theorem acquisition_law {c f : Nat} (hc : 48000 ≤ c ∧ c ≤ 1002000) (hf : IfInRange f) : (acquisition c f).Law := by
  refine ⟨nofun, fun _ => ⟨rfl, rfl⟩, ?_, ?_, ?_⟩
  · rintro _ ⟨⟩
    exact hc
  · rintro _ ⟨⟩
    obtain ⟨hlow, hhigh⟩ := hc
    obtain ⟨flow, fhigh⟩ := hf
    unfold nominalDivisor
    constructor <;> omega
  · exact ⟨⟨nofun, nofun⟩, (by decide : (-32 : Int) ≤ 0), (by decide : (0 : Int) ≤ 32), Nat.zero_le _, nofun⟩

/-- A tuner at work that keeps its carrier. -/
theorem Tuner.Law.of_kept {x y : Tuner} (k : x.Law) (hx : x.state ≠ .idle) (hy : y.state ≠ .idle)
    (hcarrier : y.carrier = x.carrier) (hn0 : y.n0 = x.n0) (hreason : y.reason.isSome ↔ y.state = .failed)
    (hoffset : -32 ≤ y.offset ∧ y.offset ≤ 32) (hcorrections : y.corrections ≤ 3)
    (hcount : ∀ r ∈ y.lastCount, r.inRange = true) : y.Law := by
  obtain ⟨-, kheld, kcarrier, kn0, -⟩ := k
  refine ⟨fun h => absurd h hy, fun _ => ?_, ?_, ?_, hreason, hoffset.1, hoffset.2, hcorrections, hcount⟩
  · rw [hcarrier, hn0]
    exact kheld hx
  · rw [hcarrier]
    exact kcarrier
  · rw [hn0]
    exact kn0

theorem Tuner.Law.reason_none {x : Tuner} (k : x.Law) (h : x.state ≠ .failed) : x.reason = none := by
  obtain ⟨-, -, -, -, hreason, -⟩ := k
  cases hr : x.reason with
  | none => rfl
  | some r => exact absurd (hreason.1 (by rw [hr]; rfl)) h

theorem Tuner.Moves.law {x y : Tuner} (h : x.Moves y) (k : x.Law) : y.Law := by
  obtain ⟨-, -, -, -, -, hlow, hhigh, hcorr, hcount⟩ := id k
  cases h with
  | lock h =>
    refine k.of_kept (by rw [h]; nofun) nofun rfl rfl ?_ ⟨hlow, hhigh⟩ hcorr hcount
    simp [k.reason_none (by rw [h]; nofun)]
  | unlock h =>
    refine k.of_kept (by rw [h]; nofun) nofun rfl rfl ?_ ⟨hlow, hhigh⟩ hcorr hcount
    simp [k.reason_none (by rw [h]; nofun)]
  | gateLock c h range =>
    refine k.of_kept (by rw [h]; nofun) nofun rfl rfl ?_ ⟨hlow, hhigh⟩ hcorr ?_
    · simp [k.reason_none (by rw [h]; nofun)]
    · rintro _ ⟨⟩
      exact range

theorem Tuner.Faults.law {x y : Tuner} (h : x.Faults y) (k : x.Law) : y.Law := by
  obtain ⟨-, -, -, -, -, hlow, hhigh, hcorr, hcount⟩ := id k
  cases h with
  | settle h => exact k.of_kept (by rw [h]; nofun) nofun rfl rfl (by simp) ⟨hlow, hhigh⟩ hcorr hcount
  | lost h =>
    refine k.of_kept (by rw [h]; nofun) nofun rfl rfl ?_ ⟨hlow, hhigh⟩ (Nat.zero_le _) hcount
    simp [k.reason_none (by rw [h]; nofun)]
  | gate c r h range =>
    refine k.of_kept (by rw [h]; nofun) nofun rfl rfl (by simp) ⟨hlow, hhigh⟩ hcorr ?_
    rintro _ ⟨⟩
    exact range

theorem Tuner.Loads.law {x y : Tuner} {f : Nat} (h : x.Loads f y) (k : x.Law) (hf : IfInRange f) : y.Law := by
  obtain ⟨-, -, hcarrier, -⟩ := id k
  cases h with
  | correct c n h range corrections low high =>
    refine k.of_kept (by rw [h]; nofun) nofun rfl rfl ?_ ⟨low, high⟩ corrections ?_
    · simp [k.reason_none (by rw [h]; nofun)]
    · rintro _ ⟨⟩
      exact range
  | retry c _ carrier => exact acquisition_law (hcarrier c carrier) hf

/-! ### Every command -/

section
variable {c : Instr} {s t x : State}

theorem State.Tunes.law (h : s.Tunes t) (k : ∀ u : TunerId, s.tp.tuners[u].Law) (hif : IfInRange s.tp.ifKHz)
    (hmap : s.cm.committed.Law) (u : TunerId) : t.tp.tuners[u].Law := by
  rcases h.tuner u with h | h | ⟨e, he, h⟩ <;> rw [h]
  · exact k u
  · exact Tuner.law_idle
  · exact acquisition_law (hmap.2.2.1 e he).2.1 hif

/-- The tuners and the IF setting. -/
def State.TunersLawful (s : State) : Prop := (∀ u : TunerId, s.tp.tuners[u].Law) ∧ IfInRange s.tp.ifKHz

theorem State.TunersLawful.of_tp (k : s.TunersLawful) (h : t.tp = s.tp) : t.TunersLawful := by
  rw [State.TunersLawful, h]
  exact k

theorem State.TunersLawful.tunes (k : s.TunersLawful) (h : s.Tunes x) (hmap : s.cm.committed.Law) (ht : t.tp = x.tp) :
    t.TunersLawful := by
  rw [State.TunersLawful, ht, h.ifKHz]
  exact ⟨h.law k.1 k.2 hmap, k.2⟩

theorem State.TunersLawful.set {u : TunerId} {y : Tuner} (k : s.TunersLawful) (hy : y.Law)
    (ht : t.tp = (s.setTuner u y).tp) : t.TunersLawful := by
  rw [State.TunersLawful, ht]
  refine ⟨fun w => ?_, k.2⟩
  by_cases hw : w = u
  · subst hw
    rw [State.setTuner_same]
    exact hy
  · rw [State.setTuner_other hw]
    exact k.1 w

theorem Serving.tunersLawful {st : Status} (h : Serving c s x st) (k : s.TunersLawful) (hmap : s.cm.committed.Law) :
    x.TunersLawful := by
  cases h with
  | wake => exact k.tunes s.wakeAll_tunes hmap (by simp)
  | standby => exact k.tunes s.sleepAll_tunes hmap (by simp)
  | select _ _ o ch e y _ _ mem _ served =>
    exact k.tunes ((State.allocate_tunes mem served).trans (y.setChannel_tunes o (some ch))) hmap (by simp)
  | tunerSetup _ v low high =>
    rw [(State.setIf_frame v s).1]
    exact ⟨k.1, low, high⟩
  | profileSet _ y p v _ passed =>
    refine k.of_tp ?_
    obtain ⟨-, -, -, -, -, htp, -⟩ := passed.repinned.frame
    simp [State.setProfile, htp]
  | bind _ y o p _ passed =>
    refine k.of_tp ?_
    obtain ⟨-, -, -, -, -, htp, -⟩ := passed.repinned.frame
    unfold State.bindOutput
    split_ifs <;> simp [htp]
  | buyRefused _ y _ passed =>
    obtain ⟨-, -, -, -, -, htp, -⟩ := passed.repinned.frame
    exact k.of_tp (by simp [htp])
  | buy _ y service n e passed =>
    refine k.of_tp ?_
    obtain ⟨-, -, -, -, -, htp, -⟩ := passed.repinned.frame
    rw [State.acceptBuy_eq]
    dsimp only
    split_ifs <;> simp [State.bought, htp]
  | _ => exact k.of_tp (by simp [State.acceptPin, State.clearPin, State.endPasses, State.masterClear])

theorem Taking.tunersLawful (h : Taking c s x) (k : s.TunersLawful) (hnew : x.cm.committed.Law) : x.TunersLawful := by
  cases h with
  | map _ g =>
    obtain ⟨-, heq⟩ | ⟨-, -, heq⟩ | ⟨-, -, heq⟩ := s.takeSegment_cases g <;> rw [heq] at hnew ⊢
    · exact k
    · have hcommitted : (s.commitMap ((collectionFor s.cm.staging g.version g.count).placeSegment g.number
          (g.entries.filterMap RawEntry.intake)).lineup).cm.committed.Law := hnew
      rw [(State.commitMap_frame _ s).2.2.2.1] at hcommitted
      exact State.TunersLawful.tunes (s := (({ s with cm := { committed := _, staging := none } } :
        State).markDirty .map).latch .mapCommitted) k (State.reResolve_tunes _) hcommitted (State.finish_frame _ _ _).2.2.2.2.1
    · exact k
  | _ => exact k.of_tp (by simp)

theorem Does.tunersLawful (h : Does c s t) (k : s.TunerLaw) (hmap : s.MapLaw) : t.TunersLawful := by
  obtain ⟨htuners, hif, hstored, -⟩ := k
  have hnew := (h.keeps_mapLaw hmap).1
  have hlawful : s.TunersLawful := ⟨htuners, hif⟩
  have hfresh (h : s.Fresh t) : t.TunersLawful := by
    rw [State.TunersLawful, h.tp]
    refine ⟨fun u => ?_, by decide⟩
    have hidle : (Vector.replicate 3 Tuner.idle)[u] = .idle := Vector.getElem_replicate _
    exact (congrArg Tuner.Law hidle).mpr Tuner.law_idle
  cases h with
  | powerOn => exact hfresh (s.resetAll_isFresh _ _)
  | powerLoss => exact hfresh s.losePower_isFresh
  | releaseReset => exact hfresh (s.resetAll_isFresh _ _)
  | restart _ r rest => exact hfresh (State.restart_isFresh r rest s)
  | assertReset => rw [s.assertReset_rest.rest]; exact hlawful
  | loadEnd =>
    have htp : s.endLoad.tp = s.takeRecords.tp := by simp
    rw [State.TunersLawful, htp]
    refine ⟨htuners, ?_⟩
    cases hr : readRecord s.ss.records.tunerSetup with
    | none => simpa [State.takeRecords, hr] using (by decide : IfInRange Config.defaultIf)
    | some n => simpa [State.takeRecords, hr] using hstored n hr
  | serves _ _ _ r rest _ _ _ h _ does => exact (does.tunersLawful hlawful hmap.1).of_tp rfl
  | takes _ _ _ _ _ does => exact does.tunersLawful hlawful hnew
  | edgeOpen => rw [State.edge_frame]; exact hlawful
  | tunerMoves _ _ u y _ _ moves => exact hlawful.set (u := u) (moves.law (htuners u)) (by simp)
  | tunerFaults _ _ u y _ _ faults => exact hlawful.set (u := u) (faults.law (htuners u)) (by simp)
  | tunerLoads _ _ u y _ _ loads =>
    exact hlawful.set (u := u) (loads.law (htuners u) hif) (by rw [← State.loadDivisor_tp]; simp)
  | _ => exact hlawful.of_tp (by simp [State.portFault])

theorem Does.keeps_tunerLaw (h : Does c s t) (k : s.TunerLaw) (hmap : s.MapLaw) : t.TunerLaw := by
  obtain ⟨htuners, hif⟩ := h.tunersLawful k hmap
  obtain ⟨-, -, hstored, hengine⟩ := k
  refine ⟨htuners, hif, ?_, h.engine_forall hengine fun r n hn => ?_⟩
  · obtain heq | ⟨w, hw, heq⟩ := h.records <;> rw [heq]
    · exact hstored
    · cases w with
      | tunerSetup n =>
        simp only [Records.store, readRecord_written]
        rintro _ ⟨⟩
        exact hengine _ hw n rfl
      | _ => exact hstored
  · cases r <;> simp only [State.supply, Content.ifKHz?, Option.mem_def, Option.some.injEq, reduceCtorEq] at hn
    exact hn ▸ hif

/-- Settles O5, by what each command makes of the tuners and of the IF setting. -/
theorem stepsKeepTunerRecordsInRange : Obligations.StepsKeepTunerRecordsInRange := by
  intro s t hs hmap h
  obtain ⟨hkept, -⟩ := step_keeps (P := fun s => s.TunerLaw ∧ s.MapLaw) (fun _ _ k => k)
    (fun _ _ _ h k => ⟨h.keeps_tunerLaw k.1 k.2, h.keeps_mapLaw k.2⟩) ⟨hs, hmap⟩ h
  exact hkept

end

end Sys2Proof.Machine

/-! PROOF. The programme guide is kept lawful by every step: records leave by sublists, and one is stored only
where the clashing records have left and there is room. -/

namespace Sys2Proof.Machine

/-! ### The laws of a table, and the records that leave it -/

/-- The order of the table (R70). -/
abbrev GuideEvent.Precedes (a b : GuideEvent) : Prop :=
  a.service < b.service ∨ (a.service = b.service ∧ a.finish ≤ b.start ∧ a.start < b.start)

/-- The laws of the guide's table, apart from the state it stands in (R69 to R71). -/
structure Guide.Lawful (g : Guide) : Prop where
  order : g.events.Pairwise GuideEvent.Precedes
  ids : g.events.Pairwise fun a b => ¬(a.service = b.service ∧ a.eventId = b.eventId)
  records : g.events.length ≤ 1536
  pool : g.poolUse ≤ 32768
  fields : ∀ e ∈ g.events, e.Law

theorem State.guideLaw_iff {s : State} : s.GuideLaw ↔ s.pg.Lawful :=
  ⟨fun ⟨order, ids, records, pool, fields⟩ => ⟨order, ids, records, pool, fields⟩,
    fun ⟨order, ids, records, pool, fields⟩ => ⟨order, ids, records, pool, fields⟩⟩

theorem Guide.lawful_empty : Guide.Lawful ⟨[]⟩ :=
  ⟨.nil, .nil, Nat.zero_le _, Nat.zero_le _, nofun⟩

theorem Guide.Lawful.sublist {g g' : Guide} (h : g.Lawful) (hsub : g'.events.Sublist g.events) : g'.Lawful where
  order := h.order.sublist hsub
  ids := h.ids.sublist hsub
  records := hsub.length_le.trans h.records
  pool := ((hsub.map _).sum_le_sum fun _ _ => Nat.zero_le _).trans h.pool
  fields := fun e he => h.fields e (hsub.subset he)

theorem Guide.Lawful.startsApart {g : Guide} (h : g.Lawful) : StartsApart g.events :=
  h.order.imp fun {a b} h => by
    unfold GuideEvent.Precedes at h
    omega

/-! ### A record that is stored -/

theorem insertEvent_perm (x : GuideEvent) (l : List GuideEvent) : (insertEvent x l).Perm (x :: l) := by
  induction l with
  | nil => exact .refl _
  | cons y ys ih =>
    unfold insertEvent
    split_ifs
    · exact .refl _
    · exact (ih.cons y).trans (.swap x y ys)

theorem GuideEvent.before_iff {a b : GuideEvent} :
    a.before b = true ↔ a.service < b.service ∨ (a.service = b.service ∧ a.start < b.start) := by
  simp [GuideEvent.before]

/-- Two programmes that the table can hold at once: of two services, or of two ids and apart in time (R70). -/
abbrev GuideEvent.Apart (x e : GuideEvent) : Prop :=
  ¬(e.service = x.service ∧
    (e.eventId = x.eventId ∨ (e.start < x.start + x.duration ∧ x.start < e.start + e.duration)))

theorem insertEvent_order {x : GuideEvent} (hx : 1 ≤ x.duration) {l : List GuideEvent}
    (h : l.Pairwise GuideEvent.Precedes) (hl : ∀ e ∈ l, 1 ≤ e.duration ∧ x.Apart e) :
    (insertEvent x l).Pairwise GuideEvent.Precedes := by
  induction l with
  | nil => exact List.pairwise_singleton _ _
  | cons y ys ih =>
    obtain ⟨hy, hys⟩ := List.pairwise_cons.1 h
    obtain ⟨⟨hdur, hapart⟩, hrest⟩ := List.forall_mem_cons.1 hl
    have hnear : x.before y = true → x.Precedes y := fun hb => by
      have := GuideEvent.before_iff.1 hb
      unfold GuideEvent.Precedes GuideEvent.finish
      omega
    have hfar : ¬x.before y = true → y.Precedes x := fun hb => by
      have := GuideEvent.before_iff.not.1 hb
      unfold GuideEvent.Precedes GuideEvent.finish
      omega
    unfold insertEvent
    split_ifs with hb
    · refine List.pairwise_cons.2 ⟨List.forall_mem_cons.2 ⟨hnear hb, fun z hz => ?_⟩, h⟩
      have hxy := hnear hb
      have hyz := hy z hz
      unfold GuideEvent.Precedes GuideEvent.finish at *
      omega
    · refine List.pairwise_cons.2 ⟨fun z hz => ?_, ih hys hrest⟩
      obtain rfl | hz := mem_insertEvent.1 hz
      · exact hfar hb
      · exact hy z hz

theorem Guide.Lawful.insert {g : Guide} {x : GuideEvent} (h : g.Lawful) (hx : x.Law)
    (hapart : ∀ e ∈ g.events, x.Apart e) (hroom : GuideRoom g.events x.title.length) :
    Guide.Lawful ⟨insertEvent x g.events⟩ := by
  have hperm := insertEvent_perm x g.events
  obtain ⟨hlen, hpool⟩ := hroom
  have hdur : 1 ≤ x.duration := by
    obtain ⟨-, -, -, ⟨hdur, -⟩, -⟩ := hx
    exact hdur
  refine ⟨insertEvent_order hdur h.order fun e he => ?order, ?ids, ?records, ?pool, fun e he => ?fields⟩
  case order =>
    obtain ⟨-, -, -, ⟨hd, -⟩, -⟩ := h.fields e he
    exact ⟨hd, hapart e he⟩
  case ids =>
    refine (hperm.pairwise_iff fun {a b} hne heq => hne ⟨heq.1.symm, heq.2.symm⟩).2
      (List.pairwise_cons.2 ⟨fun e he heq => hapart e he ⟨heq.1.symm, .inl heq.2.symm⟩, h.ids⟩)
  case records =>
    rw [length_insertEvent]
    exact hlen
  case pool =>
    unfold Guide.poolUse
    rw [(hperm.map _).sum_eq, List.map_cons, List.sum_cons]
    exact hpool
  case fields =>
    obtain heq | he := mem_insertEvent.1 he
    · rwa [heq]
    · exact h.fields e he

/-! ### Placement -/

theorem Guide.Lawful.place {g : Guide} {x : GuideEvent} (h : g.Lawful) (hx : x.Law) (now : Option Nat) :
    (g.place x now).1.Lawful := by
  have happ : ∀ e ∈ (g.clear x).events, x.Apart e := fun e he => (Guide.mem_clear.1 he).2
  have hcleared : (g.clear x).Lawful := h.sublist List.filter_sublist
  cases hended : x.ended now with
  | true =>
    unfold Guide.place
    rwa [if_pos hended]
  | false =>
    cases hroom : (g.clear x).hasRoom x with
    | true =>
      rw [Guide.place_room hended hroom]
      exact hcleared.insert hx happ ((Guide.hasRoom_iff _ _).1 hroom)
    | false =>
      obtain ⟨r, hr, heq⟩ := Guide.place_full hended hroom h.startsApart
      have hsub : r.guide.events.Sublist (g.clear x).events := hr.kept.trans List.filter_sublist
      rw [heq]
      split_ifs with hs
      · exact (hcleared.sublist hsub).insert hx (fun e he => happ e (hsub.subset he)) (hr.stored.1 hs)
      · exact hcleared.sublist hsub

theorem Guide.Lawful.placeAll {g : Guide} (h : g.Lawful) (now : Option Nat) {xs : List GuideEvent}
    (hxs : ∀ x ∈ xs, x.Law) : (g.placeAll xs now).1.Lawful := by
  unfold Guide.placeAll
  generalize false = full
  induction xs generalizing g full with
  | nil => exact h
  | cons x xs ih =>
    obtain ⟨hx, hrest⟩ := List.forall_mem_cons.1 hxs
    exact ih (h.place hx now) hrest _

theorem RawEvent.intake_law {service : Nat} {r : RawEvent} {e : GuideEvent} (hservice : 1 ≤ service ∧ service ≤ 999)
    (hr : r.Fits) (h : r.intake service = some e) : e.Law := by
  obtain ⟨hid, hminute, hdur, hlong, rfl⟩ := RawEvent.intake_eq_some.1 h
  obtain ⟨hids, hday, -, -, -, hprice, -⟩ := hr
  refine ⟨hservice, ⟨hid, by show r.eventId ≤ 65535; omega⟩, ?_, ⟨hdur, hlong⟩, Nat.min_le_right _ _, ?_,
    Nat.min_le_right _ _, ?_⟩
  · show r.day * 1440 + r.minute ≤ 94371839
    omega
  · show r.price ≤ 255
    omega
  · show (r.title.take 48).length ≤ 48
    rw [List.length_take]
    omega

/-! ### What each command makes of the guide -/

section

variable {c : Instr} {s t x : State} {st : Status}

theorem Guide.Lawful.afterMinute (h : s.pg.Lawful) : s.minuteEvent.pg.Lawful := by
  have hpg : s.minuteEvent.pg = s.pg.purge s.now := by simp
  rw [hpg]
  exact h.sublist List.filter_sublist

theorem Taking.guide_lawful (h : Taking c s x) (k : s.pg.Lawful) : x.pg.Lawful := by
  cases h with
  | guide _ g service fits =>
    obtain ⟨-, -, -, -, -, -, hpg, -⟩ := s.takeGuide_frame g
    rw [hpg]
    refine k.placeAll _ fun e he => ?_
    obtain ⟨r, hr, hin⟩ := List.mem_filterMap.1 he
    exact RawEvent.intake_law service (fits r hr) hin
  | time _ v =>
    obtain ⟨-, -, -, heq⟩ | heq | heq := s.takeTime_cases v <;> rw [heq]
    · exact k
    · exact Guide.Lawful.afterMinute k
    · exact Guide.Lawful.afterMinute k
  | _ => simpa using k

theorem Does.guide_lawful (h : Does c s t) (k : s.pg.Lawful) : t.pg.Lawful := by
  have hfresh (h : s.Fresh t) : t.pg.Lawful := by
    rw [h.pg]
    exact Guide.lawful_empty
  cases h with
  | powerOn => exact hfresh (s.resetAll_isFresh _ _)
  | powerLoss => exact hfresh s.losePower_isFresh
  | releaseReset => exact hfresh (s.resetAll_isFresh _ _)
  | restart _ r rest => exact hfresh (State.restart_isFresh r rest s)
  | assertReset => rw [s.assertReset_rest.rest]; exact k
  | minute => exact Guide.Lawful.afterMinute k
  | serves _ _ _ r rest _ _ _ h _ does =>
    obtain ⟨-, -, -, hpg, -⟩ := does.frame
    exact (congrArg Guide.Lawful hpg).mpr k
  | takes _ _ _ _ _ does => exact does.guide_lawful k
  | edgeOpen => rw [State.edge_frame]; exact k
  | _ => simpa [State.portFault] using k

end

/-- Settles O11, by what each command makes of the table. -/
theorem stepsKeepTheGuideLawful : Obligations.StepsKeepTheGuideLawful := by
  intro s t hs h
  exact State.guideLaw_iff.2 (step_keeps (P := fun s => s.pg.Lawful) (fun _ _ k => k)
    (fun _ _ _ h k => h.guide_lawful k) (State.guideLaw_iff.1 hs) h)

end Sys2Proof.Machine

/-! PROOF. The control link keeps its sizes at every step. -/

namespace Sys2Proof.Machine

/-! ### The laws of the link, the phase apart -/

/-- The sizes of the link, and RESTART's reply waiting once RESTART has been served (R187, R189, R191, R195). -/
structure ControlLink.Lawful (l : ControlLink) : Prop where
  queue : l.queue.length ≤ 4
  transmit : l.transmit.length ≤ 8
  bodies : ∀ r ∈ l.queue, r.body.length ≤ 250
  parser : l.parser.lawful = true
  restart : l.stopped = true → ∃ r ∈ l.transmit, r.kind = 0x83 ∧ r.status = .ok

/-- The link of the load period: no request waits, and no latch is set (R189, R202). -/
structure ControlLink.AtRest (l : ControlLink) : Prop where
  queue : l.queue = []
  latches : l.latches = 0
  stopped : l.stopped = false

theorem State.linkLaw_iff {s : State} :
    s.LinkLaw ↔ s.cl.Lawful ∧ (s.phase = .loading → s.cl.AtRest) := by
  constructor
  · rintro ⟨queue, transmit, bodies, parser, loading, restart⟩
    refine ⟨⟨queue, transmit, bodies, parser, restart⟩, fun h => ?_⟩
    obtain ⟨hqueue, hlatches, hstopped⟩ := loading h
    exact ⟨hqueue, hlatches, hstopped⟩
  · rintro ⟨⟨queue, transmit, bodies, parser, restart⟩, loading⟩
    exact ⟨queue, transmit, bodies, parser, fun h => ⟨(loading h).queue, (loading h).latches, (loading h).stopped⟩,
      restart⟩

section

variable {l m : ControlLink}

/-- The laws speak of the parser, the requests, the replies and the stopped handler alone. -/
theorem ControlLink.Lawful.congr (h : l.Lawful) (heq : m.parser = l.parser ∧ m.queue = l.queue ∧
    m.transmit = l.transmit ∧ m.stopped = l.stopped) : m.Lawful := by
  obtain ⟨hparser, hqueue, htransmit, hstopped⟩ := heq
  exact ⟨hqueue ▸ h.queue, htransmit ▸ h.transmit, hqueue ▸ h.bodies, hparser ▸ h.parser,
    fun hs => htransmit ▸ h.restart (hstopped ▸ hs)⟩

theorem ControlLink.Lawful.withParser (h : l.Lawful) {p : Parser} (hp : p.lawful = true) :
    ControlLink.Lawful { l with parser := p } :=
  ⟨h.queue, h.transmit, h.bodies, hp, h.restart⟩

theorem ControlLink.Lawful.withReply (h : l.Lawful) (room : l.transmit.length < 8) (r : Reply) :
    ControlLink.Lawful { l with transmit := l.transmit ++ [r] } where
  queue := h.queue
  transmit := by
    rw [List.length_append]
    exact room
  bodies := h.bodies
  parser := h.parser
  restart := fun hs => by
    obtain ⟨r, hr, hown⟩ := h.restart hs
    exact ⟨r, List.mem_append_left _ hr, hown⟩

/-- A reply that is not RESTART's own leaves the list. -/
theorem ControlLink.Lawful.sent (h : l.Lawful) {r : Reply} {rest : List Reply} (oldest : l.transmit = r :: rest)
    (other : l.isRestartReply r = false) : ControlLink.Lawful { l with transmit := rest } where
  queue := h.queue
  transmit := by
    have := h.transmit
    rw [oldest, List.length_cons] at this
    exact (Nat.le_succ _).trans this
  bodies := h.bodies
  parser := h.parser
  restart := fun hs => by
    obtain ⟨q, hq, hkind, hstatus⟩ := h.restart hs
    rw [oldest] at hq
    obtain rfl | hq := List.mem_cons.1 hq
    · rw [ControlLink.isRestartReply, (show l.stopped = true from hs), hkind, hstatus] at other
      cases other
    · exact ⟨q, hq, hkind, hstatus⟩

/-! ### A character received (R187 to R189) -/

theorem Parser.feed_lawful {p : Parser} (h : p.lawful = true) (b : Byte) :
    (p.feed b).1.lawful = true ∧ ∀ q ∈ (p.feed b).2, q.body.length ≤ 250 := by
  have one {r : Request} (hr : r.body.length ≤ 250) : ∀ q ∈ some r, q.body.length ≤ 250 := by
    rintro _ ⟨⟩
    exact hr
  cases p with
  | idle =>
    simp only [Parser.feed]
    split_ifs <;> exact ⟨rfl, nofun⟩
  | length =>
    simp only [Parser.feed]
    split_ifs with hlen
    · exact ⟨decide_eq_true hlen, nofun⟩
    · exact ⟨rfl, nofun⟩
  | kind len => exact ⟨h, nofun⟩
  | tag len k =>
    simp only [Parser.feed]
    split_ifs with hlen
    · exact ⟨rfl, one (Nat.zero_le _)⟩
    · exact ⟨Bool.and_eq_true_iff.2 ⟨h, decide_eq_true (Nat.pos_of_ne_zero hlen)⟩, nofun⟩
  | body len k t got =>
    obtain ⟨hshort, hgot⟩ := Bool.and_eq_true_iff.1 h
    have hshort := of_decide_eq_true hshort
    have hgot := of_decide_eq_true hgot
    have hlong : (got ++ [b]).length = got.length + 1 := List.length_append
    simp only [Parser.feed]
    split_ifs with hlen
    · exact ⟨rfl, one (by rw [hlong]; omega)⟩
    · refine ⟨?_, nofun⟩
      rw [Parser.lawful, Bool.and_eq_true, decide_eq_true_eq, decide_eq_true_eq, hlong]
      omega

theorem ControlLink.Lawful.completeFrame (h : l.Lawful) (loading : Bool) {r : Request} (hr : r.body.length ≤ 250) :
    (l.completeFrame loading r).Lawful := by
  unfold ControlLink.completeFrame
  split_ifs with hfull hroom
  · exact h.withReply hroom _
  · exact h
  · have hroom : l.queue.length < 4 := by
      by_contra hno
      exact hfull (Bool.or_eq_true_iff.2 (.inr (decide_eq_true (Nat.le_of_not_lt hno))))
    refine ⟨?_, h.transmit, fun q hq => ?_, h.parser, h.restart⟩
    · show (l.queue ++ [r]).length ≤ 4
      rw [List.length_append]
      exact hroom
    · obtain hq | hq := List.mem_append.1 hq
      · exact h.bodies q hq
      · rwa [List.mem_singleton.1 hq]

theorem ControlLink.Lawful.receive (h : l.Lawful) (loading : Bool) (ch : Character) :
    (l.receive loading ch).Lawful := by
  cases ch with
  | framingError => exact h.withParser rfl
  | byte b =>
    obtain ⟨hp, hr⟩ := Parser.feed_lawful h.parser b
    rcases hfeed : l.parser.feed b with ⟨p, - | r⟩ <;> rw [hfeed] at hp hr
    · rw [ControlLink.receive_partial hfeed]
      exact h.withParser hp
    · rw [ControlLink.receive_whole hfeed]
      exact (h.withParser hp).completeFrame loading (hr r rfl)

theorem ControlLink.AtRest.receive (h : l.AtRest) (ch : Character) : (l.receive true ch).AtRest := by
  obtain ⟨p, replies, heq⟩ := l.receive_loading ch
  rw [heq]
  exact ⟨h.queue, h.latches, h.stopped⟩

end

/-! ### What requests and packets leave of the link -/

section

variable {c : Instr} {s t x : State} {st : Status}

/-- No request but RESTART stops the handler, and none touches the parser, the requests or the replies. -/
theorem Serving.link (h : Serving c s x st) : x.cl.parser = s.cl.parser ∧ x.cl.queue = s.cl.queue ∧
    x.cl.transmit = s.cl.transmit ∧ (x.cl.stopped = s.cl.stopped ∨ (c = .restart ∧ st = .ok)) := by
  cases h
  case restart => exact ⟨rfl, rfl, rfl, .inr ⟨rfl, rfl⟩⟩
  case select served =>
    obtain ⟨-, hcl, -⟩ := (State.allocate_allots served).rewires.frame
    simp [State.setChannel, hcl]
  case tunerSetup => rw [(State.setIf_frame _ s).1]; exact ⟨rfl, rfl, rfl, .inl rfl⟩
  case wrongPin =>
    unfold State.countWrong
    dsimp only
    split_ifs <;> simp [ControlLink.setLatch]
  case profileSet passed =>
    obtain ⟨-, hcl, -⟩ := passed.repinned.frame
    simp [State.setProfile, hcl]
  case bind passed =>
    obtain ⟨-, hcl, -⟩ := passed.repinned.frame
    unfold State.bindOutput
    split_ifs <;> simp [hcl]
  case buyRefused passed =>
    obtain ⟨-, hcl, -⟩ := passed.repinned.frame
    simp [hcl]
  case buy passed _ _ _ =>
    obtain ⟨-, hcl, -⟩ := passed.repinned.frame
    unfold State.acceptBuy
    dsimp only
    split_ifs <;> simp [hcl, ControlLink.setLatch]
  all_goals simp [State.acceptPin, State.clearPin, State.masterClear, State.endPasses, ControlLink.clearLatch]

theorem ControlLink.Lawful.unqueued (h : s.cl.Lawful) {r : Request} {rest : List Request}
    (hq : s.cl.queue = r :: rest) : ControlLink.Lawful { s.cl with queue := rest } where
  queue := by
    have := h.queue
    rw [hq, List.length_cons] at this
    exact (Nat.le_succ _).trans this
  transmit := h.transmit
  bodies := fun q hmem => h.bodies q (hq ▸ List.mem_cons_of_mem r hmem)
  parser := h.parser
  restart := h.restart

theorem Serving.link_lawful {r : Request} {rest : List Request} {body : List Byte} (h : s.Serves r rest)
    (kind : c = .restart → r.kind = 0x03) (does : Serving c { s with cl := { s.cl with queue := rest } } x st)
    (k : s.cl.Lawful) : (x.pushReply ⟨r.kind ||| 0x80, r.tag, st, body⟩).cl.Lawful := by
  obtain ⟨-, -, hroom, hq⟩ := h
  obtain ⟨hparser, hqueue, htransmit, hstopped⟩ := does.link
  have hserved := (k.unqueued hq).withReply hroom ⟨r.kind ||| 0x80, r.tag, st, body⟩
  have hlist : x.cl.transmit ++ [⟨r.kind ||| 0x80, r.tag, st, body⟩] =
      s.cl.transmit ++ [⟨r.kind ||| 0x80, r.tag, st, body⟩] := congrArg (· ++ _) htransmit
  obtain hstopped | ⟨hrestart, hok⟩ := hstopped
  · exact hserved.congr ⟨hparser, hqueue, hlist, hstopped⟩
  · refine ⟨hqueue ▸ hserved.queue, (congrArg List.length hlist).trans_le hserved.transmit, hqueue ▸ hserved.bodies,
      hparser ▸ hserved.parser, fun _ => ⟨_, List.mem_append_right _ (List.mem_singleton_self _), ?_, hok⟩⟩
    show r.kind ||| 0x80 = 0x83
    rw [kind hrestart]
    rfl

/-! ### The link at every step -/

theorem ControlLink.lawful_fresh (h : s.Fresh t) : t.cl.Lawful ∧ t.cl.AtRest := by
  obtain ⟨cause, hcl⟩ := h.cl
  rw [hcl]
  exact ⟨⟨Nat.zero_le _, Nat.zero_le _, nofun, rfl, nofun⟩, ⟨rfl, rfl, rfl⟩⟩

theorem Does.link_lawful (h : Does c s t) (k : s.cl.Lawful) : t.cl.Lawful := by
  cases h with
  | powerOn => exact (ControlLink.lawful_fresh (s.resetAll_isFresh _ _)).1
  | powerLoss => exact (ControlLink.lawful_fresh s.losePower_isFresh).1
  | releaseReset => exact (ControlLink.lawful_fresh (s.resetAll_isFresh _ _)).1
  | restart _ r rest => exact (ControlLink.lawful_fresh (State.restart_isFresh r rest s)).1
  | assertReset => rw [s.assertReset_rest.rest]; exact k
  | loadEnd =>
    obtain ⟨_, _, hend⟩ := s.endLoad_rest
    rw [hend]
    exact k.congr ⟨rfl, rfl, rfl, rfl⟩
  | receive ch => exact k.receive _ ch
  | gapExpiry => exact k.withParser rfl
  | replySent _ r rest h oldest other => exact k.sent oldest other
  | serves _ _ _ _ _ _ _ _ h kind does => exact does.link_lawful h kind k
  | takes _ _ _ _ _ does =>
    obtain ⟨-, -, -, hparser, hqueue, htransmit, hstopped, -⟩ := does.frame
    exact k.congr ⟨hparser, hqueue, htransmit, hstopped⟩
  | edgeOpen => rw [State.edge_frame]; exact k.congr ⟨rfl, rfl, rfl, rfl⟩
  | _ => exact k.congr (by simp [State.portFault, ControlLink.setLatch])

/-- A part that loads after a command has been reset by it, or was loading and has served nothing (R202, R206). -/
theorem Does.link_atRest (h : Does c s t) (k : s.phase = .loading → s.cl.AtRest)
    (idle : s.phase = .loading → s.ss.engine = none) (hload : t.phase = .loading) : t.cl.AtRest := by
  have hrun (h : s.phase = .running) (keeps : t.phase = s.phase) : t.cl.AtRest := by
    rw [keeps, h] at hload
    cases hload
  cases h with
  | nothing => exact k hload
  | powerOn => exact (ControlLink.lawful_fresh (s.resetAll_isFresh _ _)).2
  | powerLoss => exact (ControlLink.lawful_fresh s.losePower_isFresh).2
  | releaseReset => exact (ControlLink.lawful_fresh (s.resetAll_isFresh _ _)).2
  | restart _ r rest => exact (ControlLink.lawful_fresh (State.restart_isFresh r rest s)).2
  | assertReset =>
    rw [s.assertReset_rest.rest] at hload
    cases hload
  | loadEnd =>
    obtain ⟨_, _, hend⟩ := s.endLoad_rest
    rw [hend] at hload
    cases hload
  | tick => exact k hload
  | minute _ h => exact hrun h (by simp)
  | receive ch =>
    have hloading : (s.phase == .loading) = true := beq_iff_eq.2 hload
    rw [hloading]
    exact (k hload).receive ch
  | gapExpiry => exact ⟨(k hload).queue, (k hload).latches, (k hload).stopped⟩
  | replySent => exact ⟨(k hload).queue, (k hload).latches, (k hload).stopped⟩
  | serves _ _ _ _ _ _ _ _ h _ does => exact hrun h.1 does.frame.1
  | takes _ _ _ _ h does => exact hrun h.1 does.frame.1
  | edgeOpen _ _ _ h => exact hrun h (by rw [State.edge_frame])
  | edgeClosed => exact k hload
  | releaseTakes _ _ h => exact hrun h rfl
  | release => exact k hload
  | timeout _ _ h => exact hrun h rfl
  | byteRead _ _ h => exact hrun h rfl
  | gapMark _ h => exact hrun h rfl
  | silent _ h => exact hrun h rfl
  | tunerMoves _ _ _ _ h => exact hrun h (by simp)
  | tunerFaults _ _ _ _ h => exact hrun h (by simp)
  | tunerLoads _ _ _ _ h => exact hrun h (by simp)
  | writeDone _ _ h =>
    have hphase : s.phase = .loading := by simpa using hload
    rw [idle hphase] at h
    cases h

/-- No write runs while the part loads (R206), which lets the engine's completion change no latch then. -/
theorem State.StoreLaw.idle (h : s.StoreLaw) (hload : s.phase = .loading) : s.ss.engine = none := by
  obtain ⟨-, -, hrest⟩ := h
  exact hrest (by rw [hload]; nofun)

end

/-- Settles O13, by what each command makes of the link. -/
theorem stepsKeepTheLinkWithinItsSizes : Obligations.StepsKeepTheLinkWithinItsSizes := by
  intro s t hs hstore h
  obtain ⟨hkept, -⟩ := step_keeps (P := fun s => s.LinkLaw ∧ s.StoreLaw) (fun _ _ k => k)
    (fun _ s t h ⟨k, hstore⟩ => by
      obtain ⟨hlink, hrest⟩ := State.linkLaw_iff.1 k
      exact ⟨State.linkLaw_iff.2 ⟨h.link_lawful hlink, h.link_atRest hrest hstore.idle⟩, h.keeps_storeLaw hstore⟩)
    ⟨hs, hstore⟩ h
  exact hkept

end Sys2Proof.Machine

/-! PROOF. The feed buffer keeps its size and its marks, and what the assembler has read stands at its oldest
end, at every step. -/

namespace Sys2Proof.Machine

/-! ### Gap marks (R172) -/

/-- Not both items are gap marks. -/
def FeedItem.Mixed (a b : FeedItem) : Prop := ¬(a = .gap ∧ b = .gap)

theorem gapsApart_iff {l : List FeedItem} : gapsApart l = true ↔ l.IsChain FeedItem.Mixed := by
  induction l with
  | nil => exact iff_of_true rfl .nil
  | cons a l ih =>
    cases l with
    | nil => exact iff_of_true (by cases a <;> rfl) (.singleton a)
    | cons b l =>
      rw [List.isChain_cons_cons, ← ih]
      cases a <;> cases b <;> simp [gapsApart, FeedItem.Mixed]

theorem gapsApart_drop {l : List FeedItem} (h : gapsApart l = true) (n : Nat) : gapsApart (l.drop n) = true :=
  gapsApart_iff.2 ((gapsApart_iff.1 h).drop n)

theorem gapsApart_snoc {l : List FeedItem} {a : FeedItem} (h : gapsApart l = true)
    (ha : a ≠ .gap ∨ l.getLast? ≠ some .gap) : gapsApart (l ++ [a]) = true := by
  refine gapsApart_iff.2 ((gapsApart_iff.1 h).append (.singleton a) fun x hx y hy => ?_)
  obtain rfl : a = y := by simpa using hy
  rintro ⟨rfl, rfl⟩
  exact ha.elim (fun h => h rfl) (fun h => h hx)

/-! ### The bytes of the buffer -/

section

variable {h h' : HeadendFeed}

theorem HeadendFeed.byteCount_drop (n : Nat) (hbuffer : h'.buffer = h.buffer.drop n) :
    h'.byteCount ≤ h.byteCount := by
  unfold HeadendFeed.byteCount
  rw [hbuffer]
  exact ((List.drop_sublist n h.buffer).filter _).length_le

theorem HeadendFeed.byteCount_join (h : HeadendFeed) (b : Byte) : (h.join b).byteCount = h.byteCount + 1 := by
  simp [HeadendFeed.byteCount, HeadendFeed.join]

theorem HeadendFeed.byteCount_markGap (h : HeadendFeed) : h.markGap.byteCount = h.byteCount := by
  rw [HeadendFeed.markGap_eq]
  split_ifs <;> simp [HeadendFeed.byteCount]

/-- The run of bytes stands at the buffer's oldest end, the sync first. -/
structure HeadendFeed.Reads (h : HeadendFeed) (packet : List Byte) : Prop where
  stands : ∃ more, h.buffer = packet.map .byte ++ more
  sync : packet.head? = some Config.sync

theorem filterMap_byte_length {l : List FeedItem} (h : (l.filterMap FeedItem.byte?).length = l.length) :
    l = (l.filterMap FeedItem.byte?).map .byte := by
  induction l with
  | nil => rfl
  | cons a l ih =>
    cases a with
    | byte b =>
      have hcons : (FeedItem.byte b :: l).filterMap FeedItem.byte? = b :: l.filterMap FeedItem.byte? := rfl
      rw [hcons] at h ⊢
      rw [List.map_cons, ← ih (Nat.succ.inj h)]
    | gap =>
      have hcons : (FeedItem.gap :: l).filterMap FeedItem.byte? = l.filterMap FeedItem.byte? := rfl
      have hle := List.length_filterMap_le FeedItem.byte? l
      rw [hcons, List.length_cons] at h
      omega

theorem HeadendFeed.readBytes_iff {n : Nat} (hn : 1 ≤ n) :
    h.readBytes n = true ↔ ∃ packet : List Byte, packet.length = n ∧ h.Reads packet := by
  unfold HeadendFeed.readBytes
  rw [Bool.and_eq_true, beq_iff_eq, beq_iff_eq]
  constructor
  · rintro ⟨hlen, hsync⟩
    have hall : (h.buffer.take n).length = n := by
      have h1 := List.length_filterMap_le FeedItem.byte? (h.buffer.take n)
      have h2 := List.length_take_le n h.buffer
      unfold HeadendFeed.candidate at hlen
      omega
    have hbytes : h.buffer.take n = (h.candidate n).map .byte := filterMap_byte_length (hlen.trans hall.symm)
    refine ⟨h.candidate n, hlen, ⟨h.buffer.drop n, ?_⟩, ?_⟩
    · rw [← hbytes, List.take_append_drop]
    · have hhead : (h.buffer.take n).head? = some (.byte Config.sync) := by
        rw [List.head?_take, if_neg (by omega), hsync]
      rw [hbytes, List.head?_map, Option.map_eq_some_iff] at hhead
      obtain ⟨b, hb, heq⟩ := hhead
      cases heq
      exact hb
  · rintro ⟨packet, hlen, ⟨more, hbuffer⟩, hsync⟩
    refine ⟨?_, ?_⟩
    · rw [HeadendFeed.candidate_of_buffer hbuffer hlen.ge, ← hlen, List.take_length]
    · rw [hbuffer]
      cases packet with
      | nil => cases hsync
      | cons b rest =>
        cases hsync
        rfl

/-- A longer buffer holds what the shorter one held. -/
theorem HeadendFeed.Reads.append {packet : List Byte} (k : h.Reads packet) {l : List FeedItem}
    (hbuffer : h'.buffer = h.buffer ++ l) : h'.Reads packet := by
  obtain ⟨⟨more, heq⟩, sync⟩ := k
  exact ⟨⟨more ++ l, by rw [hbuffer, heq, List.append_assoc]⟩, sync⟩

/-- The byte that stands behind the run joins it. -/
theorem HeadendFeed.Reads.snoc {packet : List Byte} (k : h.Reads packet) {b : Byte}
    (hb : h.buffer[packet.length]? = some (.byte b)) : h.Reads (packet ++ [b]) := by
  obtain ⟨⟨more, heq⟩, sync⟩ := k
  rw [heq, List.getElem?_append_right (by simp), List.length_map, Nat.sub_self] at hb
  cases more with
  | nil => cases hb
  | cons x more =>
    obtain rfl : x = .byte b := by simpa using hb
    refine ⟨⟨more, by simp [heq]⟩, ?_⟩
    cases packet with
    | nil => cases sync
    | cons _ _ => exact sync

theorem HeadendFeed.Reads.bodyLength_eq {packet : List Byte} (k : h.Reads packet) (k' : h'.Reads packet)
    (hlen : 8 ≤ packet.length) : h'.bodyLength = h.bodyLength := by
  obtain ⟨⟨_, hb⟩, -⟩ := k
  obtain ⟨⟨_, hb'⟩, -⟩ := k'
  rw [HeadendFeed.bodyLength_of_buffer hb hlen, HeadendFeed.bodyLength_of_buffer hb' hlen]

theorem HeadendFeed.Reads.candidate_eq {packet : List Byte} (k : h.Reads packet) :
    h.candidate packet.length = packet := by
  obtain ⟨⟨_, hb⟩, -⟩ := k
  rw [HeadendFeed.candidate_of_buffer hb le_rfl, List.take_length]

/-! ### The assembler's progress -/

/-- What the assembler has read stands in the buffer, and a packet handed on is checked (R173 to R175, R179). -/
def HeadendFeed.Assembles (h : HeadendFeed) (unit : Nat) : Prop :=
  match h.assembler with
  | .hunt => True
  | .header n => n ≤ 7 ∧ ∃ packet : List Byte, packet.length = n ∧ h.Reads packet
  | .body n => 8 ≤ n ∧ n < 8 + h.bodyLength ∧ h.bodyLength ≤ 232 ∧
      ∃ packet : List Byte, packet.length = n ∧ h.Reads packet
  | .check n => 8 + h.bodyLength ≤ n ∧ n < 10 + h.bodyLength ∧ h.bodyLength ≤ 232 ∧
      ∃ packet : List Byte, packet.length = n ∧ h.Reads packet
  | .handing => h.bodyLength ≤ 232 ∧ ∃ packet : List Byte, packet.length = 10 + h.bodyLength ∧ h.Reads packet ∧
      crcMatches packet = true ∧ admits packet h.setup.group unit = true

theorem HeadendFeed.assemblerLawful_iff {unit : Nat} : h.assemblerLawful unit = true ↔ h.Assembles unit := by
  unfold HeadendFeed.assemblerLawful HeadendFeed.Assembles
  cases h.assembler with
  | hunt => exact iff_of_true rfl trivial
  | header n =>
    simp only [Bool.and_eq_true, decide_eq_true_eq]
    constructor
    · rintro ⟨⟨hone, hseven⟩, hread⟩
      exact ⟨hseven, (HeadendFeed.readBytes_iff hone).1 hread⟩
    · rintro ⟨hseven, packet, hlen, k⟩
      have hone : 1 ≤ n := by
        rw [← hlen]
        exact List.length_pos_of_ne_nil (fun hnil => by have := k.sync; rw [hnil] at this; cases this)
      exact ⟨⟨hone, hseven⟩, (HeadendFeed.readBytes_iff hone).2 ⟨packet, hlen, k⟩⟩
  | body n =>
    simp only [Bool.and_eq_true, decide_eq_true_eq, and_assoc]
    exact and_congr_right fun hn => by rw [HeadendFeed.readBytes_iff (by omega)]
  | check n =>
    simp only [Bool.and_eq_true, decide_eq_true_eq, and_assoc]
    exact and_congr_right fun hn => by rw [HeadendFeed.readBytes_iff (by omega)]
  | handing =>
    simp only [Bool.and_eq_true, decide_eq_true_eq, and_assoc]
    refine and_congr_right fun _ => ?_
    rw [HeadendFeed.readBytes_iff (by omega)]
    constructor
    · rintro ⟨⟨packet, hlen, k⟩, hcrc, hadmits⟩
      rw [← hlen, k.candidate_eq] at hcrc hadmits
      exact ⟨packet, hlen, k, hcrc, hadmits⟩
    · rintro ⟨packet, hlen, k, hcrc, hadmits⟩
      rw [← hlen, k.candidate_eq]
      exact ⟨⟨packet, rfl, k⟩, hcrc, hadmits⟩

theorem HeadendFeed.assembles_hunt (ha : h.assembler = .hunt) (unit : Nat) : h.Assembles unit := by
  simp only [HeadendFeed.Assembles, ha]

/-- The assembler's progress stands whatever joins the buffer. -/
theorem HeadendFeed.Assembles.append {unit : Nat} (k : h.Assembles unit) {l : List FeedItem}
    (hbuffer : h'.buffer = h.buffer ++ l) (ha : h'.assembler = h.assembler) (hg : h'.setup.group = h.setup.group) :
    h'.Assembles unit := by
  unfold HeadendFeed.Assembles at *
  rw [ha, hg]
  cases hstate : h.assembler <;> simp only [hstate] at k ⊢
  case header =>
    obtain ⟨hn, packet, hlen, k⟩ := k
    exact ⟨hn, packet, hlen, k.append hbuffer⟩
  case body =>
    obtain ⟨hlow, hhigh, hmax, packet, hlen, k⟩ := k
    rw [k.bodyLength_eq (k.append hbuffer) (by omega)]
    exact ⟨hlow, hhigh, hmax, packet, hlen, k.append hbuffer⟩
  case check =>
    obtain ⟨hlow, hhigh, hmax, packet, hlen, k⟩ := k
    rw [k.bodyLength_eq (k.append hbuffer) (by omega)]
    exact ⟨hlow, hhigh, hmax, packet, hlen, k.append hbuffer⟩
  case handing =>
    obtain ⟨hmax, packet, hlen, k, hchecked⟩ := k
    rw [k.bodyLength_eq (k.append hbuffer) (by omega)]
    exact ⟨hmax, packet, hlen, k.append hbuffer, hchecked⟩

/-! ### The feed's laws, the phase apart -/

/-- The buffer's capacity and marks, and the assembler's progress (R172 to R175, R179). -/
structure HeadendFeed.Lawful (h : HeadendFeed) (unit : Nat) : Prop where
  size : h.byteCount ≤ 512
  gaps : gapsApart h.buffer = true
  admitted : h.handshake = true → h.setup.mode = .trailing → h.byteCount < 512
  assembles : h.Assembles unit

variable {unit : Nat}

/-- The laws do not speak of the level, the silence timer and the last fault, and a strobe's end keeps them. -/
theorem HeadendFeed.Lawful.congr (k : h.Lawful unit) (heq : h'.buffer = h.buffer ∧ h'.assembler = h.assembler ∧
    h'.setup = h.setup ∧ (h'.handshake = true → h.handshake = true)) : h'.Lawful unit := by
  obtain ⟨hbuffer, hassembler, hsetup, hhandshake⟩ := heq
  have hcount : h'.byteCount = h.byteCount := by simp only [HeadendFeed.byteCount, hbuffer]
  exact ⟨hcount ▸ k.size, hbuffer ▸ k.gaps, fun hh hm => hcount ▸ k.admitted (hhandshake hh) (hsetup ▸ hm),
    k.assembles.append (l := []) (by rw [hbuffer, List.append_nil]) hassembler (by rw [hsetup])⟩

/-- With an empty buffer and the assembler in HUNT, the laws hold. -/
theorem HeadendFeed.Lawful.of_empty (hbuffer : h.buffer = []) (hassembler : h.assembler = .hunt) : h.Lawful unit := by
  have hcount : h.byteCount = 0 := by simp only [HeadendFeed.byteCount, hbuffer, List.filter_nil, List.length_nil]
  exact ⟨by omega, by rw [hbuffer]; rfl, fun _ _ => by omega, HeadendFeed.assembles_hunt hassembler _⟩

theorem HeadendFeed.Lawful.join (k : h.Lawful unit) (b : Byte) (room : h.byteCount < 512)
    (strobe : h.handshake = true → h.setup.mode ≠ .trailing) : (h.join b).Lawful unit where
  size := by
    rw [HeadendFeed.byteCount_join]
    exact room
  gaps := gapsApart_snoc k.gaps (.inl (by simp))
  admitted := fun hh hm => absurd hm (strobe hh)
  assembles := k.assembles.append rfl rfl rfl

theorem HeadendFeed.Lawful.markGap (k : h.Lawful unit) : h.markGap.Lawful unit := by
  unfold HeadendFeed.markGap
  split_ifs with hlast
  · exact k
  · have hcount : ({ h with buffer := h.buffer ++ [.gap] } : HeadendFeed).byteCount = h.byteCount := by
      simp [HeadendFeed.byteCount]
    exact ⟨hcount ▸ k.size, gapsApart_snoc k.gaps (.inr hlast), fun hh hm => hcount ▸ k.admitted hh hm,
      k.assembles.append rfl rfl rfl⟩

/-- Items leave at the oldest end, and the search starts anew. -/
theorem HeadendFeed.Lawful.drop (k : h.Lawful unit) {n : Nat} (hbuffer : h'.buffer = h.buffer.drop n)
    (hassembler : h'.assembler = .hunt) (hmode : h'.setup.mode = h.setup.mode)
    (hhandshake : h'.handshake = h.handshake) : h'.Lawful unit where
  size := (HeadendFeed.byteCount_drop n hbuffer).trans k.size
  gaps := hbuffer ▸ gapsApart_drop k.gaps n
  admitted := fun hh hm => (HeadendFeed.byteCount_drop n hbuffer).trans_lt
    (k.admitted (hhandshake ▸ hh) (hmode ▸ hm))
  assembles := HeadendFeed.assembles_hunt hassembler _

theorem HeadendFeed.Lawful.withAssembler (k : h.Lawful unit) {a : Assembler}
    (ha : ({ h with assembler := a } : HeadendFeed).Assembles unit) :
    HeadendFeed.Lawful { h with assembler := a } unit :=
  ⟨k.size, k.gaps, k.admitted, ha⟩

/-! ### A byte read -/

/-- The whole candidate is judged: handed on checked, dropped, or rejected (R175, R176). -/
theorem HeadendFeed.Lawful.judge (k : h.Lawful unit) (hmax : h.bodyLength ≤ 232) {packet : List Byte}
    (hlen : packet.length = 10 + h.bodyLength) (hreads : h.Reads packet) : (h.judge unit).Lawful unit := by
  have hwhole : h.candidate (10 + h.bodyLength) = packet := hlen ▸ hreads.candidate_eq
  simp only [HeadendFeed.judge, hwhole]
  split_ifs with hcrc hadmits
  · exact ⟨k.size, k.gaps, k.admitted, hmax, packet, hlen, ⟨hreads.stands, hreads.sync⟩, hcrc, hadmits⟩
  · exact k.drop rfl rfl rfl rfl
  · exact k.drop rfl rfl rfl rfl

theorem HeadendFeed.Lawful.readByte (k : h.Lawful unit) {b : Byte} (hitem : h.nextItem = some (.byte b)) :
    (h.readByte unit b).Lawful unit := by
  have hlaw := k.assembles
  have hstep {n : Nat} (hreading : h.assembler.Reading n) {packet : List Byte} (hlen : packet.length = n)
      (hreads : h.Reads packet) : (packet ++ [b]).length = n + 1 ∧ h.Reads (packet ++ [b]) := by
    rw [HeadendFeed.nextItem_of_reading hreading, ← hlen] at hitem
    exact ⟨by rw [List.length_append, hlen, List.length_singleton], hreads.snoc hitem⟩
  cases ha : h.assembler with
  | hunt =>
    rw [HeadendFeed.nextItem_of_hunt ha] at hitem
    by_cases hb : b = 0x9C
    · subst hb
      rw [HeadendFeed.readByte_sync ha]
      refine k.withAssembler ⟨by decide, [0x9C], rfl, ⟨?_, rfl⟩⟩
      obtain ⟨more, hmore⟩ := List.head?_eq_some_iff.1 hitem
      exact ⟨more, hmore⟩
    · rw [HeadendFeed.readByte_stray ha hb]
      exact k.drop rfl rfl rfl rfl
  | header n =>
    simp only [HeadendFeed.Assembles, ha] at hlaw
    obtain ⟨hn, packet, hlen, hreads⟩ := hlaw
    obtain ⟨hlen', hreads'⟩ := hstep (.inl ha) hlen hreads
    by_cases hlast : n < 7
    · rw [HeadendFeed.readByte_header ha hlast]
      exact k.withAssembler ⟨hlast, _, hlen', hreads'.stands, hreads'.sync⟩
    · obtain rfl : n = 7 := by omega
      have hbody : h.bodyLength = b.toNat := by
        obtain ⟨⟨_, hbuffer⟩, -⟩ := hreads'
        rw [HeadendFeed.bodyLength_of_buffer hbuffer hlen'.ge, List.getD_eq_getElem?_getD,
          List.getElem?_append_right hlen.le, hlen]
        rfl
      rw [HeadendFeed.readByte_length ha]
      split_ifs with hover hzero
      · exact k.drop rfl rfl rfl rfl
      · refine k.withAssembler ⟨?_, ?_, ?_, _, hlen', hreads'.stands, hreads'.sync⟩
        · show 8 + h.bodyLength ≤ 8
          omega
        · show 8 < 10 + h.bodyLength
          omega
        · show h.bodyLength ≤ 232
          omega
      · refine k.withAssembler ⟨le_rfl, ?_, ?_, _, hlen', hreads'.stands, hreads'.sync⟩
        · show 8 < 8 + h.bodyLength
          omega
        · show h.bodyLength ≤ 232
          omega
  | body n =>
    simp only [HeadendFeed.Assembles, ha] at hlaw
    obtain ⟨hlow, hhigh, hmax, packet, hlen, hreads⟩ := hlaw
    obtain ⟨hlen', hreads'⟩ := hstep (.inr (.inl ha)) hlen hreads
    rw [HeadendFeed.readByte_body ha]
    split_ifs with hmore
    · exact k.withAssembler ⟨by omega, hmore, hmax, _, hlen', hreads'.stands, hreads'.sync⟩
    · refine k.withAssembler ⟨not_lt.1 hmore, ?_, hmax, _, hlen', hreads'.stands, hreads'.sync⟩
      show n + 1 < 10 + h.bodyLength
      omega
  | check n =>
    simp only [HeadendFeed.Assembles, ha] at hlaw
    obtain ⟨hlow, hhigh, hmax, packet, hlen, hreads⟩ := hlaw
    obtain ⟨hlen', hreads'⟩ := hstep (.inr (.inr ha)) hlen hreads
    rw [HeadendFeed.readByte_check ha]
    split_ifs with hmore
    · refine k.withAssembler ⟨?_, hmore, hmax, _, hlen', hreads'.stands, hreads'.sync⟩
      show 8 + h.bodyLength ≤ n + 1
      omega
    · exact k.judge hmax (by omega) hreads'
  | handing =>
    rw [HeadendFeed.nextItem_of_handing ha] at hitem
    cases hitem

end

end Sys2Proof.Machine

/-! PROOF. What each command makes of the feed: O12. -/

namespace Sys2Proof.Machine

section

variable {c : Instr} {s t x : State} {st : Status}

/-- No request but FEED SETUP touches the feed. -/
theorem Serving.feed (h : Serving c s x st) :
    x.hf = s.hf ∨ ∃ m st ak edge, x.hf = s.hf.setUp m st ak edge := by
  cases h
  case feedSetup m st ak edge => exact .inr ⟨m, st, ak, edge, by simp⟩
  case select served =>
    obtain ⟨-, -, hhf, -⟩ := (State.allocate_allots served).rewires.frame
    simp [State.setChannel, hhf]
  case tunerSetup => rw [(State.setIf_frame _ s).1]; exact .inl rfl
  case wrongPin =>
    unfold State.countWrong
    dsimp only
    split_ifs <;> simp
  case profileSet passed =>
    obtain ⟨-, -, hhf, -⟩ := passed.repinned.frame
    simp [State.setProfile, hhf]
  case bind passed =>
    obtain ⟨-, -, hhf, -⟩ := passed.repinned.frame
    unfold State.bindOutput
    split_ifs <;> simp [hhf]
  case buyRefused passed =>
    obtain ⟨-, -, hhf, -⟩ := passed.repinned.frame
    simp [hhf]
  case buy passed _ _ _ =>
    obtain ⟨-, -, hhf, -⟩ := passed.repinned.frame
    unfold State.acceptBuy
    dsimp only
    split_ifs <;> simp [hhf]
  all_goals simp [State.acceptPin, State.clearPin, State.masterClear, State.endPasses]

/-- No packet but GROUP touches the feed, its own leaving apart. -/
theorem Taking.feed (h : Taking c s x) :
    x.hf = s.hf ∨ ∃ g, x.hf = { s.hf with setup := { s.hf.setup with group := g } } := by
  cases h
  case group g => exact .inr ⟨g, by simp⟩
  all_goals simp

theorem State.unitAddress_congr (h : t.ss.records.identity = s.ss.records.identity) :
    t.unitAddress = s.unitAddress := by
  simp only [State.unitAddress, h]

/-- IDENTITY is never written (R204). -/
theorem Does.unitAddress_eq (h : Does c s t) : t.unitAddress = s.unitAddress := by
  refine State.unitAddress_congr ?_
  obtain heq | ⟨w, -, heq⟩ := h.records <;> rw [heq]
  exact Records.store_identity _ _

/-- A port at rest: no strobe admitted, and the silence timer at rest (R184). -/
structure HeadendFeed.AtRest (h : HeadendFeed) : Prop where
  handshake : h.handshake = false
  silence : h.silence = false

/-- The feed of the load period: nothing received, nothing read (R185). -/
structure HeadendFeed.Empty (h : HeadendFeed) : Prop where
  buffer : h.buffer = []
  assembler : h.assembler = .hunt

theorem State.feedLaw_iff : s.FeedLaw ↔ s.hf.Lawful s.unitAddress ∧ (s.phase ≠ .running → s.hf.AtRest) ∧
    (s.phase = .loading → s.hf.Empty) := by
  constructor
  · rintro ⟨size, gaps, admitted, assembles, rest, loading⟩
    refine ⟨⟨size, gaps, admitted, HeadendFeed.assemblerLawful_iff.1 assembles⟩, fun h => ?_, fun h => ?_⟩
    · obtain ⟨handshake, silence⟩ := rest h
      exact ⟨handshake, silence⟩
    · obtain ⟨buffer, assembler⟩ := loading h
      exact ⟨buffer, assembler⟩
  · rintro ⟨⟨size, gaps, admitted, assembles⟩, rest, loading⟩
    exact ⟨size, gaps, admitted, HeadendFeed.assemblerLawful_iff.2 assembles,
      fun h => ⟨(rest h).handshake, (rest h).silence⟩, fun h => ⟨(loading h).buffer, (loading h).assembler⟩⟩

/-- The laws of the feed in a state, as a step's outcome `t` meets them. -/
theorem State.FeedLaw.of_running (hlaw : t.hf.Lawful t.unitAddress) (running : t.phase = .running) : t.FeedLaw :=
  State.feedLaw_iff.2 ⟨hlaw, fun h => absurd running h, fun h => by rw [running] at h; cases h⟩

theorem State.FeedLaw.of_fresh (h : s.Fresh t) : t.FeedLaw := by
  refine State.feedLaw_iff.2 ⟨.of_empty ?_ ?_, fun _ => ⟨?_, ?_⟩, fun _ => ⟨?_, ?_⟩⟩ <;> rw [h.hf] <;> rfl

theorem State.FeedLaw.handed {unit : Nat} (k : s.hf.Lawful unit) : s.packetGone.hf.Lawful unit :=
  k.drop (n := 10 + s.hf.bodyLength) rfl rfl rfl rfl

/-- A strobe that the port admits; in TRAILING its byte finds room (R168, R169). -/
theorem HeadendFeed.Lawful.strobe {unit : Nat} {h : HeadendFeed} (k : h.Lawful unit)
    (room : h.setup.mode = .trailing → h.byteCount < 512) : HeadendFeed.Lawful { h with handshake := true } unit :=
  ⟨k.size, k.gaps, fun _ => room, k.assembles.append (l := []) (List.append_nil _).symm rfl rfl⟩

/-- An edge on an open port keeps the feed's laws (R167 to R171). -/
theorem HeadendFeed.Lawful.edge {unit : Nat} {h : HeadendFeed} (k : h.Lawful unit) (fd : Byte) {admitted : Bool}
    (room : admitted = true → h.byteCount < 512) : (s.edge fd admitted h).hf.Lawful unit := by
  have hgap : h.markGap.Lawful unit := k.markGap
  unfold State.edge
  cases hmode : h.setup.mode with
  | strobe =>
    simp only
    split_ifs with hroom
    · exact k.join fd (of_decide_eq_true hroom) (by simp [hmode])
    · exact hgap.congr ⟨rfl, rfl, rfl, id⟩
  | leading =>
    simp only
    split_ifs with hadm
    · exact (k.join fd (room hadm) (by simp [hmode])).strobe fun hm => absurd (hmode.symm.trans hm) (by simp)
    · exact hgap.congr ⟨rfl, rfl, rfl, id⟩
  | trailing =>
    simp only
    split_ifs with hadm
    · exact k.strobe fun _ => room hadm
    · exact hgap.congr ⟨rfl, rfl, rfl, id⟩

theorem Does.feed_lawful (h : Does c s t) (k : s.hf.Lawful s.unitAddress) (empty : s.phase = .loading → s.hf.Empty) :
    t.hf.Lawful s.unitAddress := by
  have hfresh (h : s.Fresh t) : t.hf.Lawful s.unitAddress :=
    .of_empty (by rw [h.hf]; rfl) (by rw [h.hf]; rfl)
  cases h with
  | powerOn => exact hfresh (s.resetAll_isFresh _ _)
  | powerLoss => exact hfresh s.losePower_isFresh
  | releaseReset => exact hfresh (s.resetAll_isFresh _ _)
  | restart _ r rest => exact hfresh (State.restart_isFresh r rest s)
  | assertReset => rw [s.assertReset_rest.rest]; exact k.congr ⟨rfl, rfl, rfl, nofun⟩
  | loadEnd _ hload =>
    obtain ⟨buffer, assembler⟩ := empty hload
    refine .of_empty ?_ ?_ <;> simpa [State.takeRecords]
  | serves _ _ _ _ _ _ _ _ h _ does =>
    obtain heq | ⟨m, st, ak, edge, heq⟩ := does.feed
    · exact k.congr (by simp [heq])
    · refine .of_empty ?_ ?_ <;> simp [heq, HeadendFeed.setUp]
  | takes _ _ _ _ h does =>
    have hgone := State.FeedLaw.handed k
    obtain heq | ⟨g, heq⟩ := does.feed <;> rw [heq]
    · exact hgone
    · exact ⟨hgone.size, hgone.gaps, hgone.admitted, HeadendFeed.assembles_hunt rfl _⟩
  | edgeOpen fd _ inactive h =>
    have hdriven : HeadendFeed.Lawful { s.hf.driveFstb true with fackHeld := false } s.unitAddress :=
      k.congr ⟨rfl, rfl, rfl, id⟩
    refine hdriven.edge fd fun hadm => ?_
    obtain ⟨-, hroom, -⟩ := HeadendFeed.fackActive_iff.1 hadm
    exact hroom
  | edgeClosed fd => exact k.congr ⟨rfl, rfl, rfl, id⟩
  | releaseTakes fd _ h hmode runs =>
    have hreleased : HeadendFeed.Lawful { s.hf.driveFstb false with handshake := false, fackHeld := false }
        s.unitAddress := k.congr ⟨rfl, rfl, rfl, nofun⟩
    exact hreleased.join fd (k.admitted runs hmode) nofun
  | release fd => exact k.congr ⟨rfl, rfl, rfl, nofun⟩
  | timeout _ g running feed =>
    have hstopped : HeadendFeed.Lawful { s.hf with handshake := false } s.unitAddress :=
      k.congr ⟨rfl, rfl, rfl, nofun⟩
    obtain rfl | rfl := feed
    · exact hstopped.congr ⟨rfl, rfl, rfl, id⟩
    · exact hstopped.markGap.congr ⟨rfl, rfl, rfl, id⟩
  | byteRead _ b h item => exact k.readByte item
  | gapMark => exact k.drop (n := s.hf.assembler.readCount + 1) rfl rfl rfl rfl
  | _ => exact k.congr (by simp)

/-- A part that is not running has its port at rest, and one that loads has received nothing (R184, R185). -/
theorem Does.feed_rests (h : Does c s t) (k : s.FeedLaw) : (t.phase ≠ .running → t.hf.AtRest) ∧
    (t.phase = .loading → t.hf.Empty) := by
  obtain ⟨-, hrest, hload⟩ := State.feedLaw_iff.1 k
  have hfresh (h : s.Fresh t) : (t.phase ≠ .running → t.hf.AtRest) ∧ (t.phase = .loading → t.hf.Empty) :=
    (State.feedLaw_iff.1 (.of_fresh h)).2
  have hruns (h : t.phase = .running) : (t.phase ≠ .running → t.hf.AtRest) ∧ (t.phase = .loading → t.hf.Empty) :=
    ⟨fun hno => absurd h hno, fun hl => by rw [h] at hl; cases hl⟩
  have hsame (hhf : t.hf = s.hf) (hphase : t.phase = s.phase) :
      (t.phase ≠ .running → t.hf.AtRest) ∧ (t.phase = .loading → t.hf.Empty) := by
    rw [hhf, hphase]
    exact ⟨hrest, hload⟩
  cases h with
  | powerOn => exact hfresh (s.resetAll_isFresh _ _)
  | powerLoss => exact hfresh s.losePower_isFresh
  | releaseReset => exact hfresh (s.resetAll_isFresh _ _)
  | restart _ r rest => exact hfresh (State.restart_isFresh r rest s)
  | assertReset =>
    rw [s.assertReset_rest.rest]
    exact ⟨fun _ => ⟨rfl, rfl⟩, nofun⟩
  | loadEnd => exact hruns (by simp)
  | minute _ h => exact hruns (by simpa using h)
  | serves _ _ _ _ _ _ _ _ h _ does => exact hruns (does.frame.1.trans h.1)
  | takes _ _ _ _ h does => exact hruns (does.frame.1.trans h.1)
  | edgeOpen _ _ _ h => exact hruns (by rw [State.edge_frame]; exact h)
  | edgeClosed => exact ⟨fun h => ⟨(hrest h).handshake, (hrest h).silence⟩,
      fun h => ⟨(hload h).buffer, (hload h).assembler⟩⟩
  | releaseTakes _ _ h => exact hruns h
  | release => exact ⟨fun h => ⟨rfl, (hrest h).silence⟩, fun h => ⟨(hload h).buffer, (hload h).assembler⟩⟩
  | timeout _ _ h => exact hruns h
  | byteRead _ _ h => exact hruns h
  | gapMark _ h => exact hruns h
  | silent _ h => exact hruns h
  | _ => exact hsame (by simp) (by simp)

theorem Does.keeps_feedLaw (h : Does c s t) (k : s.FeedLaw) : t.FeedLaw := by
  obtain ⟨hlaw, -, hempty⟩ := State.feedLaw_iff.1 k
  refine State.feedLaw_iff.2 ⟨?_, h.feed_rests k⟩
  rw [h.unitAddress_eq]
  exact h.feed_lawful hlaw hempty

end

/-- Settles O12, by what each command makes of the buffer and the assembler. -/
theorem stepsKeepHandedPacketsChecked : Obligations.StepsKeepHandedPacketsChecked :=
  fun _ _ hs h => step_keeps (P := State.FeedLaw) (fun _ _ k => k) (fun _ _ _ h k => h.keeps_feedLaw k) hs h

end Sys2Proof.Machine

/-! PROOF. The reconciliation of the stored purchases at the load end: O22. -/

namespace Sys2Proof.Machine

/-! ### The log in ascending order (R118 step 3) -/

theorem insertPurchase_perm (p : Purchase) (l : List Purchase) : (insertPurchase p l).Perm (p :: l) := by
  induction l with
  | nil => exact .refl _
  | cons q qs ih =>
    unfold insertPurchase
    split_ifs
    · exact .refl _
    · exact (ih.cons q).trans (.swap p q qs)

theorem insertPurchase_pairwise {p : Purchase} {l : List Purchase} (h : l.Pairwise fun a b => a.seq < b.seq)
    (hp : ∀ q ∈ l, p.seq ≠ q.seq) : (insertPurchase p l).Pairwise fun a b => a.seq < b.seq := by
  induction l with
  | nil => exact List.pairwise_singleton _ _
  | cons q qs ih =>
    obtain ⟨hq, hqs⟩ := List.pairwise_cons.1 h
    obtain ⟨hpq, hrest⟩ := List.forall_mem_cons.1 hp
    unfold insertPurchase
    split_ifs with hlt
    · exact List.pairwise_cons.2 ⟨List.forall_mem_cons.2 ⟨hlt, fun x hx => hlt.trans (hq x hx)⟩, h⟩
    · refine List.pairwise_cons.2 ⟨fun x hx => ?_, ih hqs hrest⟩
      obtain rfl | hx := List.mem_cons.1 ((insertPurchase_perm p qs).mem_iff.1 hx)
      · omega
      · exact hq x hx

/-- What the sort comes to on top of a log that stands. -/
theorem foldl_insertPurchase (l : List Purchase) (held : List Purchase) :
    (l.foldl (fun acc p => insertPurchase p acc) held).Perm (l ++ held) ∧
      (held.Pairwise (fun a b => a.seq < b.seq) → l.Pairwise (fun a b => a.seq ≠ b.seq) →
        (∀ p ∈ l, ∀ q ∈ held, p.seq ≠ q.seq) →
        (l.foldl (fun acc p => insertPurchase p acc) held).Pairwise fun a b => a.seq < b.seq) := by
  induction l generalizing held with
  | nil => exact ⟨.refl _, fun h _ _ => h⟩
  | cons p l ih =>
    obtain ⟨hperm, hsorted⟩ := ih (insertPurchase p held)
    refine ⟨hperm.trans (((insertPurchase_perm p held).append_left l).trans List.perm_middle),
      fun hheld hl hne => ?_⟩
    obtain ⟨hp, hl⟩ := List.pairwise_cons.1 hl
    obtain ⟨hpne, hne⟩ := List.forall_mem_cons.1 hne
    refine hsorted (insertPurchase_pairwise hheld hpne) hl fun x hx q hq => ?_
    obtain rfl | hq := List.mem_cons.1 ((insertPurchase_perm p held).mem_iff.1 hq)
    · exact (hp x hx).symm
    · exact hne x hx q hq

theorem mem_sortPurchases {l : List Purchase} {p : Purchase} : p ∈ sortPurchases l ↔ p ∈ l := by
  have hperm := (foldl_insertPurchase l []).1
  rw [List.append_nil] at hperm
  exact hperm.mem_iff

theorem sortPurchases_pairwise {l : List Purchase} (h : l.Pairwise fun a b => a.seq ≠ b.seq) :
    (sortPurchases l).Pairwise fun a b => a.seq < b.seq :=
  (foldl_insertPurchase l []).2 .nil h nofun

/-! ### The next number (R118 step 4) -/

theorem raisedNext_spec (l : List Purchase) (n : Nat) : n ≤ raisedNext n l ∧ (∀ p ∈ l, p.seq < raisedNext n l) ∧
    (raisedNext n l = n ∨ ∃ p ∈ l, raisedNext n l = p.seq + 1) := by
  induction l generalizing n with
  | nil => exact ⟨le_rfl, nofun, .inl rfl⟩
  | cons p l ih =>
    obtain ⟨hle, hall, hfrom⟩ := ih (max n (p.seq + 1))
    have hcons : raisedNext n (p :: l) = raisedNext (max n (p.seq + 1)) l := rfl
    rw [hcons]
    refine ⟨(Nat.le_max_left _ _).trans hle, List.forall_mem_cons.2 ⟨(Nat.le_max_right _ _).trans hle, hall⟩, ?_⟩
    obtain heq | ⟨q, hq, heq⟩ := hfrom
    · obtain hmax | hmax := max_choice n (p.seq + 1)
      · exact .inl (heq.trans hmax)
      · exact .inr ⟨p, List.mem_cons_self, heq.trans hmax⟩
    · exact .inr ⟨q, List.mem_cons_of_mem _ hq, heq⟩

/-! ### The stored records and their programmes (R118 steps 1 and 2) -/

section

variable {r : Records}

theorem Records.mem_loaded {x : Purchase} :
    x ∈ r.loaded ↔ ∃ k : SlotId, ∃ p, readRecord r.slots[k] = some p ∧ x = { p with slot := k } := by
  simp only [Records.loaded, List.mem_filterMap, List.mem_finRange, true_and, Option.map_eq_some_iff]
  simp only [eq_comm]

theorem Purchase.lateAck_iff {acked : Nat} {p : Purchase} :
    p.lateAck acked = true ↔ p.state = .opened ∧ p.seq ≤ acked := by
  rw [Purchase.lateAck, Bool.and_eq_true, beq_iff_eq, decide_eq_true_eq]

/-- Step 1 changes a record's state alone. -/
theorem Purchase.acknowledged_frame (acked : Nat) (p : Purchase) :
    (p.acknowledged acked).seq = p.seq ∧ (p.acknowledged acked).service = p.service ∧
      (p.acknowledged acked).eventId = p.eventId ∧ (p.acknowledged acked).slot = p.slot := by
  unfold Purchase.acknowledged
  split_ifs <;> exact ⟨rfl, rfl, rfl, rfl⟩

/-- No two slots hold records of one number (R118). -/
abbrev Records.Numbered (r : Records) : Prop :=
  ∀ j k : SlotId, j ≠ k → ∀ p ∈ readRecord r.slots[j], ∀ q ∈ readRecord r.slots[k], p.seq ≠ q.seq

/-- Another slot holds a record of the same programme and a higher number (R118 step 2). -/
abbrev Records.Outnumbered (r : Records) (k : SlotId) (p : Purchase) : Prop :=
  ∃ j : SlotId, j ≠ k ∧ ∃ q ∈ readRecord r.slots[j], q.service = p.service ∧ q.eventId = p.eventId ∧ p.seq < q.seq

theorem Records.loaded_pairwise (h : r.Numbered) : r.loaded.Pairwise fun a b => a.seq ≠ b.seq := by
  refine List.Pairwise.filterMap _ (fun j k hjk a ha b hb => ?_) (List.nodup_finRange 32)
  obtain ⟨p, hp, rfl⟩ := Option.map_eq_some_iff.1 ha
  obtain ⟨q, hq, rfl⟩ := Option.map_eq_some_iff.1 hb
  exact h j k hjk p hp q hq

/-- Where the stored numbers differ, a record gives way exactly where another slot outnumbers it. -/
theorem Records.superseded_iff (h : r.Numbered) (acked : Nat) {k : SlotId} {p x : Purchase}
    (hp : readRecord r.slots[k] = some p) (hx : x.seq = p.seq ∧ x.service = p.service ∧ x.eventId = p.eventId ∧ x.slot = k) :
    x.superseded (r.loaded.map (Purchase.acknowledged acked)) = true ↔ r.Outnumbered k p := by
  obtain ⟨hseq, hservice, hevent, hslot⟩ := hx
  simp only [Purchase.superseded, List.any_map, List.any_eq_true, Function.comp_apply, Bool.and_eq_true, beq_iff_eq,
    Bool.or_eq_true, decide_eq_true_eq, and_assoc]
  constructor
  · rintro ⟨y, hy, hsame, hsameId, hmore⟩
    obtain ⟨j, q, hq, rfl⟩ := Records.mem_loaded.1 hy
    obtain ⟨aseq, aservice, aevent, aslot⟩ := Purchase.acknowledged_frame acked { q with slot := j }
    rw [aservice, hservice] at hsame
    rw [aevent, hevent] at hsameId
    rw [aseq, aslot, hseq, hslot] at hmore
    have hjk : j ≠ k := by
      rintro rfl
      obtain rfl : q = p := Option.some.inj (hq.symm.trans hp)
      obtain hlt | ⟨-, hlt⟩ := hmore
      · exact absurd hlt (lt_irrefl _)
      · exact absurd hlt (lt_irrefl _)
    refine ⟨j, hjk, q, hq, hsame, hsameId, ?_⟩
    obtain hlt | ⟨heq, -⟩ := hmore
    · exact hlt
    · exact absurd heq (h j k hjk q hq p hp)
  · rintro ⟨j, hjk, q, hq, hsame, hsameId, hmore⟩
    obtain ⟨aseq, aservice, aevent, -⟩ := Purchase.acknowledged_frame acked { q with slot := j }
    refine ⟨{ q with slot := j }, Records.mem_loaded.2 ⟨j, q, hq, rfl⟩, ?_, ?_, .inl ?_⟩
    · rw [aservice, hservice]; exact hsame
    · rw [aevent, hevent]; exact hsameId
    · rw [aseq, hseq]; exact hmore

/-- The log that the records come to (R118). -/
theorem Records.mem_log (h : r.Numbered) {x : Purchase} : x ∈ r.purchasing.log ↔
    ∃ k : SlotId, ∃ p, readRecord r.slots[k] = some p ∧ ¬r.Outnumbered k p ∧
      x = ({ p with slot := k } : Purchase).acknowledged ((readRecord r.sequence).getD .initial).acked := by
  generalize hacked : ((readRecord r.sequence).getD .initial).acked = acked
  have hlog : x ∈ r.purchasing.log ↔ x ∈ r.loaded.map (Purchase.acknowledged acked) ∧
      x.superseded (r.loaded.map (Purchase.acknowledged acked)) = false := by
    rw [← hacked, Records.purchasing]
    simp only [mem_sortPurchases, List.mem_filter, Bool.not_eq_true']
  have hgone {k : SlotId} {p : Purchase} (hp : readRecord r.slots[k] = some p) :=
    r.superseded_iff h acked hp (Purchase.acknowledged_frame acked { p with slot := k })
  rw [hlog, ← Bool.not_eq_true, List.mem_map]
  constructor
  · rintro ⟨⟨y, hy, rfl⟩, hkept⟩
    obtain ⟨k, p, hp, rfl⟩ := Records.mem_loaded.1 hy
    exact ⟨k, p, hp, (hgone hp).not.1 hkept, rfl⟩
  · rintro ⟨k, p, hp, hkept, rfl⟩
    exact ⟨⟨_, Records.mem_loaded.2 ⟨k, p, hp, rfl⟩, rfl⟩, (hgone hp).not.2 hkept⟩

theorem Records.log_pairwise (h : r.Numbered) : r.purchasing.log.Pairwise fun a b => a.seq < b.seq := by
  refine sortPurchases_pairwise (List.Pairwise.filter _ (List.pairwise_map.2 ?_))
  refine (Records.loaded_pairwise h).imp fun {a b} hne => ?_
  rw [(Purchase.acknowledged_frame _ a).1, (Purchase.acknowledged_frame _ b).1]
  exact hne

/-- The slots that the reconciliation has written anew (R118 steps 1 and 2). -/
theorem Records.mem_reconciled (h : r.Numbered) {x : Purchase} : x ∈ r.reconciled ↔
    ∃ k : SlotId, ∃ p, readRecord r.slots[k] = some p ∧ x = { p with slot := k } ∧
      ((p.state = .opened ∧ p.seq ≤ ((readRecord r.sequence).getD .initial).acked) ∨ r.Outnumbered k p) := by
  have hgone {k : SlotId} {p : Purchase} (hp : readRecord r.slots[k] = some p) :=
    r.superseded_iff h ((readRecord r.sequence).getD .initial).acked (x := { p with slot := k }) hp
      ⟨rfl, rfl, rfl, rfl⟩
  simp only [Records.reconciled, List.mem_filter, Records.mem_loaded, Bool.or_eq_true, Purchase.lateAck_iff]
  constructor
  · rintro ⟨⟨k, p, hp, rfl⟩, hchanged⟩
    exact ⟨k, p, hp, rfl, hchanged.imp_right (hgone hp).1⟩
  · rintro ⟨k, p, hp, rfl, hchanged⟩
    exact ⟨⟨k, p, hp, rfl⟩, hchanged.imp_right (hgone hp).2⟩

end

/-! ### The records that await their writes after the load (R206 step 4) -/

theorem State.supply_inj {s : State} {a b : RecordId} (h : s.supply a = s.supply b) : a = b := by
  cases a <;> cases b <;> simp only [State.supply, Content.slot.injEq, Content.profile.injEq, reduceCtorEq] at h <;>
    simp [h]

/-- What awaits its write after a start of one, the engine having been IDLE, was dirty before it. -/
theorem State.mem_dirty_of_awaits {s : State} {r : RecordId} (idle : s.ss.engine = none)
    (h : s.startWrite.awaitsWrite r) : r ∈ s.ss.dirty := by
  obtain ⟨e, -⟩ | ⟨d, rest, -, hd, e⟩ := s.startWrite_cases <;> rw [e] at h
  · obtain h | h := h
    · exact h
    · rw [idle] at h
      cases h
  · rw [hd]
    obtain h | h := h
    · exact List.mem_cons_of_mem _ (mem_dirtyAfterStart.1 h).1
    · have hsupply : s.supply d = s.supply r := (Option.some.inj h).trans (by cases r <;> rfl)
      exact List.mem_cons.2 (.inl (State.supply_inj hsupply).symm)

/-- The load's marks, before its event closes. -/
def State.reconciled (s : State) : State := (s.takeRecords.markSlots s.ss.records.reconciled).latch .ready

theorem State.mem_dirty_reconciled {s : State} {q : RecordId} :
    q ∈ s.reconciled.ss.dirty ↔ (∃ p ∈ s.ss.records.reconciled, q = .slot p.slot) ∨ q ∈ s.ss.dirty :=
  State.mem_dirty_markSlots

/-- Settles O22: the log by its records, the slots by their marks, and the next number by its lower bound. -/
theorem loadReconcilesThePurchases : Obligations.LoadReconcilesThePurchases := by
  intro s t hload held seq late outnumbered hnumbered hexec
  have ht : s.endLoad = t := Host.Outcome.next.inj ((congrArg Host.Outcome.next (if_pos hload).symm).trans hexec)
  have hawaits (q : RecordId) : t.awaitsWrite q ↔ s.reconciled.startWrite.awaitsWrite q := by
    rw [← ht]
    exact or_congr_right (by cases q <;> rfl)
  have hep : t.ep = s.ss.records.purchasing := by
    rw [← ht]
    simp
  have hmem {x : Purchase} := s.ss.records.mem_log (x := x) hnumbered
  have hrec {x : Purchase} := s.ss.records.mem_reconciled (x := x) hnumbered
  obtain ⟨hle, hall, hfrom⟩ := raisedNext_spec t.ep.log seq.next
  have hnext : t.ep.seq.next = raisedNext seq.next t.ep.log := by rw [hep]; rfl
  refine ⟨fun x => ?log, ?_, fun k p hp hchanged => ?marked, fun hidle hclean q hq => ?others, ?_,
    fun hbelow => ?stands, fun ⟨x, hx, habove⟩ => ?raised⟩
  case log =>
    rw [hep, hmem]
    refine exists_congr fun k => exists_congr fun p => and_congr_right fun _ => and_congr_right fun _ => ?_
    by_cases hlate : late p
    · have hack : ({ p with slot := k } : Purchase).acknowledged seq.acked =
          { p with slot := k, state := .reported } := if_pos (Purchase.lateAck_iff.2 hlate)
      simp only [hlate, not_true_eq_false, false_and, or_false, true_and]
      exact Eq.congr_right hack
    · have hack : ({ p with slot := k } : Purchase).acknowledged seq.acked = { p with slot := k } :=
        if_neg (Purchase.lateAck_iff.not.2 hlate)
      simp only [hlate, not_false_eq_true, false_and, false_or, true_and]
      exact Eq.congr_right hack
  case marked =>
    refine (hawaits _).2 (State.awaitsWrite_startWrite (State.mem_dirty_reconciled.2 (.inl ?_)) (by simp))
    exact ⟨{ p with slot := k }, hrec.2 ⟨k, p, hp, rfl, hchanged⟩, rfl⟩
  case others =>
    have hdirty := State.mem_dirty_of_awaits (s := s.reconciled) (by simpa [State.reconciled, State.takeRecords]
      using hidle) ((hawaits q).1 hq)
    obtain ⟨x, hx, rfl⟩ | hmem := State.mem_dirty_reconciled.1 hdirty
    · obtain ⟨k, p, hp, rfl, hchanged⟩ := hrec.1 hx
      exact ⟨k, p, rfl, hp, hchanged⟩
    · rw [hclean] at hmem
      cases hmem
  case stands =>
    rw [hnext]
    obtain heq | ⟨x, hx, heq⟩ := hfrom
    · exact heq
    · have := hbelow x hx
      omega
  case raised =>
    have hover := hall x hx
    obtain heq | ⟨y, hy, heq⟩ := hfrom
    · omega
    · exact ⟨y, hy, hnext.trans heq, fun z hz => by have := hall z hz; omega⟩
  · rw [hep]
    exact Records.log_pairwise hnumbered
  · rw [hep]
    rfl

end Sys2Proof.Machine

/-! PROOF. The purchase log and its stored numbers at every step: O9. -/

namespace Sys2Proof.Machine

/-! ### How the log moves -/

/-- What the laws of R98 read of a record. -/
structure Purchase.SameKey (p q : Purchase) : Prop where
  seq : q.seq = p.seq
  service : q.service = p.service
  eventId : q.eventId = p.eventId
  slot : q.slot = p.slot

/-- The number, the programme and the slot of a record. -/
def Purchase.key (p : Purchase) : Nat × Nat × Nat × SlotId := (p.seq, p.service, p.eventId, p.slot)

/-- How a serving part moves its log: records leave or change in state alone, the number acknowledged moving below
the next one; or one record is appended (R104, R107, R109, R111). -/
inductive Purchasing.Moves (old new : Purchasing) : Prop where
  | thins (log : (new.log.map Purchase.key).Sublist (old.log.map Purchase.key)) (next : new.seq.next = old.seq.next)
      (acked : new.seq.acked < old.seq.next)
  | appends (p : Purchase) (log : new.log = old.log ++ [p])
      (seq : new.seq = { old.seq with next := old.seq.next + 1 }) (number : p.seq = old.seq.next)
      (slot : ∀ q ∈ old.log, q.slot ≠ p.slot)
      (programme : ∀ q ∈ old.log, ¬(q.service = p.service ∧ q.eventId = p.eventId)) (room : old.log.length < 32)
      (numbered : old.seq.next ≠ 4294967295)

section

variable {old new : Purchasing}

theorem Purchasing.Moves.of_eq (k : old.Law) (log : new.log = old.log) (seq : new.seq = old.seq) : old.Moves new := by
  obtain ⟨⟨-, -, hacked⟩, -⟩ := k
  exact .thins (by rw [log]) (by rw [seq]) (by rw [seq]; exact hacked)

theorem pairwise_of_key {R : Nat × Nat × Nat × SlotId → Nat × Nat × Nat × SlotId → Prop} {l l' : List Purchase}
    (hsub : (l'.map Purchase.key).Sublist (l.map Purchase.key)) (h : l.Pairwise fun a b => R a.key b.key) :
    l'.Pairwise fun a b => R a.key b.key :=
  List.pairwise_map.1 ((List.pairwise_map.2 h).sublist hsub)

theorem Purchasing.Moves.mem (m : old.Moves new) {q : Purchase} (hq : q ∈ new.log) :
    (∃ p ∈ old.log, p.key = q.key) ∨ q.seq = old.seq.next := by
  cases m with
  | thins log =>
    obtain ⟨p, hp, heq⟩ := List.mem_map.1 (log.subset (List.mem_map_of_mem (f := Purchase.key) hq))
    exact .inl ⟨p, hp, heq⟩
  | appends p log _ number =>
    rw [log] at hq
    obtain hq | hq := List.mem_append.1 hq
    · exact .inl ⟨q, hq, rfl⟩
    · rw [List.mem_singleton.1 hq]
      exact .inr number

theorem Purchasing.Moves.next_le (m : old.Moves new) : old.seq.next ≤ new.seq.next := by
  cases m with
  | thins _ next => exact next.ge
  | appends _ _ seq => rw [seq]; exact Nat.le_succ _

theorem Purchasing.Moves.law (m : old.Moves new) (k : old.Law) : new.Law := by
  have hmem : ∀ q ∈ new.log, 1 ≤ q.seq ∧ q.seq ≤ old.seq.next := fun q hq => by
    obtain ⟨⟨hone, -, -⟩, -, hrange, -⟩ := k
    obtain ⟨p, hp, heq⟩ | heq := m.mem hq
    · obtain ⟨hlow, hhigh⟩ := hrange p hp
      have hseq : p.seq = q.seq := congrArg Prod.fst heq
      omega
    · omega
  obtain ⟨⟨hone, hmax, hacked⟩, horder, hrange, hlen, hslots, hprogrammes⟩ := k
  cases m with
  | thins log next acked =>
    have hbelow : ∀ q ∈ new.log, q.seq < old.seq.next := fun q hq => by
      obtain ⟨p, hp, heq⟩ := List.mem_map.1 (log.subset (List.mem_map_of_mem (f := Purchase.key) hq))
      have hseq : p.seq = q.seq := congrArg Prod.fst heq
      exact hseq ▸ (hrange p hp).2
    refine ⟨⟨next ▸ hone, next ▸ hmax, next ▸ acked⟩, pairwise_of_key (R := fun a b => a.1 < b.1) log horder,
      fun q hq => ⟨(hmem q hq).1, next ▸ hbelow q hq⟩, ?_,
      pairwise_of_key (R := fun a b => a.2.2.2 ≠ b.2.2.2) log hslots,
      pairwise_of_key (R := fun a b => ¬(a.2.1 = b.2.1 ∧ a.2.2.1 = b.2.2.1)) log hprogrammes⟩
    have := log.length_le
    rw [List.length_map, List.length_map] at this
    exact this.trans hlen
  | appends p log seq number slot programme room numbered =>
    have hsnoc {R : Purchase → Purchase → Prop} (h : old.log.Pairwise R) (hp : ∀ q ∈ old.log, R q p) :
        new.log.Pairwise R := by
      rw [log, List.pairwise_append]
      exact ⟨h, List.pairwise_singleton _ _, fun q hq x hx => List.mem_singleton.1 hx ▸ hp q hq⟩
    refine ⟨?_, hsnoc horder fun q hq => number ▸ (hrange q hq).2, fun q hq => ⟨(hmem q hq).1, ?_⟩, ?_,
      hsnoc hslots slot, hsnoc hprogrammes programme⟩
    · rw [seq]
      exact ⟨Nat.le_add_left 1 _, show old.seq.next + 1 ≤ 4294967295 by omega,
        show old.seq.acked < old.seq.next + 1 by omega⟩
    · rw [seq]
      exact Nat.lt_succ_of_le (hmem q hq).2
    · rw [log, List.length_append]
      exact room

end

/-! ### What each command makes of the log -/

section

variable {c : Instr} {s t x : State} {st : Status}

theorem State.minuteEvent_moves {m : State} (hep : m.ep = s.ep) (k : s.ep.Law) : s.ep.Moves m.minuteEvent.ep := by
  have hafter : m.minuteEvent.ep = { s.ep with log := s.ep.log.filter fun p => !p.removable m.now } := by simp [hep]
  obtain ⟨⟨-, -, hacked⟩, -⟩ := k
  rw [hafter]
  exact .thins (List.filter_sublist.map _) rfl hacked

theorem Purchase.acknowledge_key {n : Nat} {now : Option Nat} {p q : Purchase} (h : q.acknowledge n now = some p) :
    p.key = q.key := by
  obtain ⟨rfl, -⟩ | ⟨-, -, rfl⟩ := Purchase.acknowledge_eq_some.1 h <;> rfl

theorem State.takePurack_moves (n : Nat) (k : s.ep.Law) : s.ep.Moves (s.takePurack n).ep := by
  have hep : (s.takePurack n).ep = { s.ep with
        log := s.ep.log.filterMap (Purchase.acknowledge n s.now)
        seq := { s.ep.seq with acked := max s.ep.seq.acked (min n (s.ep.seq.next - 1)) } } := by simp
  obtain ⟨⟨hone, -, hacked⟩, -⟩ := k
  rw [hep]
  refine .thins (filterMap_sublist (fun _ _ => Purchase.acknowledge_key) _) rfl ?_
  show max s.ep.seq.acked (min n (s.ep.seq.next - 1)) < s.ep.seq.next
  omega

theorem Taking.purchases (h : Taking c s x) (k : s.ep.Law) : s.ep.Moves x.ep := by
  cases h with
  | time _ v =>
    obtain ⟨-, -, -, heq⟩ | heq | heq := s.takeTime_cases v <;> rw [heq]
    · exact .of_eq k rfl rfl
    · exact State.minuteEvent_moves rfl k
    · exact State.minuteEvent_moves rfl k
  | purack _ n => exact s.takePurack_moves n k
  | _ => exact .of_eq k (by simp) (by simp)

theorem Purchasing.recordFor_eq_none {e : Purchasing} {service eventId : Nat} :
    e.recordFor service eventId = none ↔ ∀ p ∈ e.log, ¬(p.service = service ∧ p.eventId = eventId) := by
  simp [Purchasing.recordFor, List.find?_eq_none]

theorem State.acceptBuy_ep (service n : Nat) (e : GuideEvent) (x : State) :
    (x.acceptBuy service n e).ep = { x.ep with
      log := x.ep.log ++ [x.ep.newRecord service n e], seq := { x.ep.seq with next := x.ep.seq.next + 1 } } := by
  unfold State.acceptBuy
  dsimp only
  split_ifs <;> simp

/-- No request but BUY touches the log. -/
theorem Serving.purchases (h : Serving c s x st) (k : s.ep.Law) : s.ep.Moves x.ep := by
  have stays (heq : x.ep = s.ep) : s.ep.Moves x.ep := .of_eq k (by rw [heq]) (by rw [heq])
  cases h
  case buy y service n e passed fresh room numbered =>
    obtain ⟨-, -, -, -, -, -, -, -, hep, -⟩ := passed.repinned.frame
    rw [State.acceptBuy_ep, hep]
    exact .appends (s.ep.newRecord service n e) rfl rfl rfl (Purchasing.freeSlot_lowest room).1
      (Purchasing.recordFor_eq_none.1 fresh) room numbered
  case select served =>
    obtain ⟨-, -, -, -, -, -, -, hep, -⟩ := (State.allocate_allots served).rewires.frame
    exact stays (by simp [State.setChannel, hep])
  case tunerSetup => exact stays (by rw [(State.setIf_frame _ s).1])
  case wrongPin =>
    refine stays ?_
    unfold State.countWrong
    dsimp only
    split_ifs <;> simp
  case profileSet passed =>
    obtain ⟨-, -, -, -, -, -, -, -, hep, -⟩ := passed.repinned.frame
    exact stays (by simp [State.setProfile, hep])
  case bind passed =>
    obtain ⟨-, -, -, -, -, -, -, -, hep, -⟩ := passed.repinned.frame
    refine stays ?_
    unfold State.bindOutput
    split_ifs <;> simp [hep]
  case buyRefused passed =>
    obtain ⟨-, -, -, -, -, -, -, -, hep, -⟩ := passed.repinned.frame
    exact stays (by simp [hep])
  all_goals exact stays (by simp [State.acceptPin, State.clearPin, State.masterClear, State.endPasses])

theorem State.completeWrite_moves (w : Content) (k : s.ep.Law) : s.ep.Moves (s.completeWrite w).ep := by
  obtain ⟨_, _, _, y, -, -, -, -, heq⟩ | ⟨-, heq⟩ := s.completeWrite_cases w <;> rw [heq]
  · obtain ⟨⟨-, -, hacked⟩, -⟩ := k
    rw [(State.report_closes _ _).alike.ep]
    refine .thins ?_ rfl hacked
    have hkeys : (s.ep.log.map fun z => if z = y then { z with state := .opened } else z).map Purchase.key =
        s.ep.log.map Purchase.key := by
      rw [List.map_map]
      refine List.map_congr_left fun z _ => ?_
      simp only [Function.comp_apply]
      split_ifs <;> rfl
    exact (congrArg (List.Sublist · _) hkeys).mpr (.refl _)
  · rw [(State.report_closes _ _).alike.ep]
    exact .of_eq k rfl rfl

/-- What a command makes of the log and of the phase. -/
theorem Does.purchases (h : Does c s t) (k : s.ep.Law) : s.Fresh t ∨ (s.phase = .loading ∧ t = s.endLoad) ∨
    (s.ep.Moves t.ep ∧ (t.phase = .running → s.phase = .running)) := by
  have stays (hep : t.ep = s.ep) (hphase : t.phase = s.phase) : s.Fresh t ∨ (s.phase = .loading ∧ t = s.endLoad) ∨
      (s.ep.Moves t.ep ∧ (t.phase = .running → s.phase = .running)) :=
    .inr (.inr ⟨.of_eq k (by rw [hep]) (by rw [hep]), fun h => hphase ▸ h⟩)
  cases h with
  | powerOn => exact .inl (s.resetAll_isFresh _ _)
  | powerLoss => exact .inl s.losePower_isFresh
  | releaseReset => exact .inl (s.resetAll_isFresh _ _)
  | restart _ r rest => exact .inl (State.restart_isFresh r rest s)
  | assertReset =>
    rw [s.assertReset_rest.rest]
    exact .inr (.inr ⟨.of_eq k rfl rfl, nofun⟩)
  | loadEnd _ h => exact .inr (.inl ⟨h, rfl⟩)
  | minute _ h => exact .inr (.inr ⟨State.minuteEvent_moves rfl k, fun _ => h⟩)
  | serves _ _ _ r rest _ _ _ h _ does =>
    have hmoves := does.purchases k
    exact .inr (.inr ⟨hmoves, fun _ => h.1⟩)
  | takes _ _ _ _ h does =>
    have hmoves := does.purchases k
    exact .inr (.inr ⟨hmoves, fun _ => h.1⟩)
  | edgeOpen => exact stays (by rw [State.edge_frame]) (by rw [State.edge_frame])
  | writeDone _ w h => exact .inr (.inr ⟨s.completeWrite_moves w k, fun hr => by simpa using hr⟩)
  | _ => exact stays (by simp [State.portFault]) (by simp [State.portFault])

end

/-! ### The log against the stored numbers -/

/-- No number of the log stands in the store under another slot, and no stored number is still to be given
(R106, R118). -/
structure Purchasing.Ties (e : Purchasing) (r : Records) : Prop where
  next : r.seq.next ≤ e.seq.next
  slots : ∀ k : SlotId, ∀ p ∈ readRecord r.slots[k], ∀ q ∈ e.log, q.seq = p.seq → q.slot = k

/-- The same of the content a write carries. -/
structure Content.Ties (c : Content) (e : Purchasing) : Prop where
  next : ∀ q ∈ c.seq?, q.next ≤ e.seq.next
  slot : ∀ x ∈ c.purchase?, ∀ q ∈ e.log, q.seq = x.2.seq → q.slot = x.1

theorem State.purchaseTies_iff {s : State} :
    s.PurchaseTies ↔ s.ep.Ties s.ss.records ∧ ∀ c ∈ s.ss.engine, c.Ties s.ep :=
  ⟨fun ⟨next, slots, engine⟩ => ⟨⟨next, slots⟩, fun c hc => ⟨(engine c hc).1, (engine c hc).2⟩⟩,
    fun ⟨ties, engine⟩ => ⟨ties.next, ties.slots, fun c hc => ⟨(engine c hc).next, (engine c hc).slot⟩⟩⟩

section

variable {old new e : Purchasing} {r : Records} {c : Content}

theorem Purchasing.Moves.ties (m : old.Moves new) (k : old.Ties r) (hr : r.PurchaseLaw) : new.Ties r where
  next := k.next.trans m.next_le
  slots := fun j p hp q hq hseq => by
    obtain ⟨-, hstored, -⟩ := hr
    obtain ⟨-, hbelow, -⟩ := hstored j p hp
    obtain ⟨x, hx, hkey⟩ | hnew := m.mem hq
    · obtain ⟨hxseq, -, -, hxslot⟩ := (by simpa [Purchase.key] using hkey :
        x.seq = q.seq ∧ x.service = q.service ∧ x.eventId = q.eventId ∧ x.slot = q.slot)
      exact hxslot ▸ k.slots j p hp x hx (hxseq.trans hseq)
    · have := k.next
      omega

/-- A slot's write carries SEQUENCE too (R209). -/
theorem Content.exists_seq {x : SlotId × Purchase} (hx : x ∈ c.purchase?) : ∃ q, q ∈ c.seq? := by
  cases c with
  | slot k p q => exact ⟨q, rfl⟩
  | _ => cases hx

theorem Purchasing.Moves.content_ties (m : old.Moves new) (k : c.Ties old) (hc : c.PurchaseLaw r) : c.Ties new where
  next := fun q hq => (k.next q hq).trans m.next_le
  slot := fun x hx q hq hseq => by
    obtain ⟨w, hw⟩ := Content.exists_seq hx
    obtain ⟨-, hcarried⟩ := hc
    obtain ⟨-, -, hbelow, -⟩ := hcarried x hx
    obtain ⟨y, hy, hkey⟩ | hnew := m.mem hq
    · obtain ⟨hyseq, -, -, hyslot⟩ := (by simpa [Purchase.key] using hkey :
        y.seq = q.seq ∧ y.service = q.service ∧ y.eventId = q.eventId ∧ y.slot = q.slot)
      exact hyslot ▸ k.slot x hx y hy (hyseq.trans hseq)
    · have := hbelow w hw
      have := k.next w hw
      omega

/-! ### What the owner supplies -/

theorem Purchasing.mem_of_inSlot {k : SlotId} {p : Purchase} (h : e.inSlot k = some p) : p ∈ e.log ∧ p.slot = k := by
  have := List.find?_some h
  exact ⟨List.mem_of_find?_eq_some h, by simpa using this⟩

theorem Purchase.stored_not_pending (p : Purchase) : p.stored.state ≠ .pending := by
  unfold Purchase.stored
  split_ifs <;> simp

/-- In a log, a number names one record (R98). -/
theorem Purchasing.Law.eq_of_seq (k : e.Law) {p q : Purchase} (hp : p ∈ e.log) (hq : q ∈ e.log)
    (h : p.seq = q.seq) : p = q := by
  obtain ⟨-, horder, -⟩ := k
  have hnodup : (e.log.map Purchase.seq).Nodup := List.pairwise_map.2 (horder.imp fun h => h.ne)
  exact List.inj_on_of_nodup_map hnodup hp hq h

theorem State.supply_lawful {s : State} (k : s.ep.Law) (ties : s.ep.Ties r) (i : RecordId) :
    (s.supply i).PurchaseLaw r ∧ (s.supply i).Ties s.ep := by
  have hseq : ∀ q ∈ (s.supply i).seq?, q = s.ep.seq := by
    cases i <;> simp [State.supply, Content.seq?, eq_comm]
  have hslot : ∀ x ∈ (s.supply i).purchase?, ∃ p ∈ s.ep.log, p.slot = x.1 ∧ x.2 = p.stored := by
    cases i with
    | slot j =>
      intro x hx
      obtain ⟨y, hy, rfl⟩ := Option.map_eq_some_iff.1 hx
      obtain ⟨p, hp, rfl⟩ := Option.map_eq_some_iff.1 hy
      obtain ⟨hmem, hpslot⟩ := Purchasing.mem_of_inSlot hp
      exact ⟨p, hmem, hpslot, rfl⟩
    | _ => nofun
  have hlaw := k
  obtain ⟨hnext, -, hrange, -⟩ := k
  refine ⟨⟨fun q hq => ?_, fun x hx => ?_⟩, ⟨fun q hq => ?_, fun x hx q hq heq => ?_⟩⟩
  · rw [hseq q hq]
    exact ⟨hnext, ties.next⟩
  · obtain ⟨p, hp, hpslot, hstored⟩ := hslot x hx
    rw [hstored]
    refine ⟨(hrange p hp).1, p.stored_not_pending, fun q hq => ?_, fun j hj y hy heq => hj ?_⟩
    · rw [hseq q hq]
      exact (hrange p hp).2
    · rw [← hpslot]
      exact (ties.slots j y hy p hp heq.symm).symm
  · rw [hseq q hq]
  · obtain ⟨p, hp, hpslot, hstored⟩ := hslot x hx
    rw [hstored] at heq
    rw [hlaw.eq_of_seq hq hp heq, hpslot]

/-! ### The completion of a write -/

theorem Records.store_seq (r : Records) (c : Content) :
    (r.store c).seq = r.seq ∧ c.seq? = none ∨ ∃ q, c.seq? = some q ∧ (r.store c).seq = q := by
  cases c with
  | slot k p q => exact .inr ⟨q, rfl, by simp [Records.seq, Records.store]⟩
  | sequence q => exact .inr ⟨q, rfl, by simp [Records.seq, Records.store]⟩
  | _ => exact .inl ⟨rfl, rfl⟩

theorem Records.of_store_slot {j : SlotId} {p : Purchase} (h : p ∈ readRecord (r.store c).slots[j]) :
    (j, p) ∈ c.purchase? ∨ (p ∈ readRecord r.slots[j] ∧ ∀ x ∈ c.purchase?, x.1 ≠ j) := by
  cases c with
  | slot k y q =>
    by_cases hjk : k = j
    · subst hjk
      have hset : (r.store (.slot k y q)).slots[k] = y.map .written := Vector.getElem_set_self _
      rw [hset] at h
      cases y with
      | none => cases h
      | some y =>
        rw [Option.map_some, readRecord_written] at h
        exact .inl (congrArg (Option.map fun x => (k, x)) h)
    · have hset : (r.store (.slot k y q)).slots[j] = r.slots[j] :=
        Vector.getElem_set_ne k.isLt j.isLt fun heq => hjk (Fin.ext heq)
      rw [hset] at h
      refine .inr ⟨h, fun x hx => ?_⟩
      obtain ⟨_, _, rfl⟩ := Option.map_eq_some_iff.1 hx
      exact hjk
  | _ => exact .inr ⟨h, nofun⟩

theorem Records.PurchaseLaw.store (k : r.PurchaseLaw) (hc : c.PurchaseLaw r) : (r.store c).PurchaseLaw := by
  obtain ⟨hseq, hslots, hdistinct⟩ := k
  obtain ⟨hnext, hcarried⟩ := hc
  have hnumber : (r.store c).seq.Law ∧ r.seq.next ≤ (r.store c).seq.next := by
    obtain ⟨heq, -⟩ | ⟨q, hq, heq⟩ := r.store_seq c <;> rw [heq]
    · exact ⟨hseq, le_rfl⟩
    · exact hnext q hq
  have hbelow : ∀ x ∈ c.purchase?, x.2.seq < (r.store c).seq.next := fun x hx => by
    obtain ⟨w, hw⟩ := Content.exists_seq hx
    obtain ⟨-, -, hlt, -⟩ := hcarried x hx
    obtain ⟨-, hnone⟩ | ⟨q, hq, heq⟩ := r.store_seq c
    · rw [hnone] at hw
      cases hw
    · rw [heq]
      exact hlt q hq
  refine ⟨hnumber.1, fun j p hp => ?_, fun i j hij p hp q hq => ?_⟩
  · obtain hx | ⟨hp, -⟩ := Records.of_store_slot hp
    · obtain ⟨hone, hstate, -, -⟩ := hcarried _ hx
      exact ⟨hone, hbelow _ hx, hstate⟩
    · obtain ⟨hone, hlt, hstate⟩ := hslots j p hp
      exact ⟨hone, hlt.trans_le hnumber.2, hstate⟩
  · obtain hx | ⟨hp, -⟩ := Records.of_store_slot hp
    · obtain hy | ⟨hq, -⟩ := Records.of_store_slot hq
      · obtain ⟨rfl, -⟩ := Prod.mk.inj (Option.some.inj (hx.symm.trans hy))
        exact absurd rfl hij
      · obtain ⟨-, -, -, hne⟩ := hcarried _ hx
        exact (hne j hij.symm q hq).symm
    · obtain hy | ⟨hq, -⟩ := Records.of_store_slot hq
      · obtain ⟨-, -, -, hne⟩ := hcarried _ hy
        exact hne i hij p hp
      · exact hdistinct i j hij p hp q hq

theorem Purchasing.Ties.store (k : e.Ties r) (hc : c.Ties e) : e.Ties (r.store c) where
  next := by
    obtain ⟨heq, -⟩ | ⟨q, hq, heq⟩ := r.store_seq c <;> rw [heq]
    · exact k.next
    · exact hc.next q hq
  slots := fun j p hp q hq hseq => by
    obtain hx | ⟨hp, -⟩ := Records.of_store_slot hp
    · exact hc.slot _ hx q hq hseq
    · exact k.slots j p hp q hq hseq

/-- Content that has been stored is lawful against the records that hold it. -/
theorem Content.PurchaseLaw.stored (hc : c.PurchaseLaw r) : c.PurchaseLaw (r.store c) := by
  obtain ⟨hnext, hcarried⟩ := hc
  refine ⟨fun q hq => ⟨(hnext q hq).1, ?_⟩, fun x hx => ?_⟩
  · obtain ⟨-, hnone⟩ | ⟨w, hw, heq⟩ := r.store_seq c
    · rw [hnone] at hq
      cases hq
    · rw [heq, Option.some.inj (hw.symm.trans hq)]
  · obtain ⟨hone, hstate, hlt, hne⟩ := hcarried x hx
    refine ⟨hone, hstate, hlt, fun j hj p hp => ?_⟩
    obtain hy | ⟨hp, -⟩ := Records.of_store_slot hp
    · obtain rfl : (j, p) = x := Option.some.inj (hy.symm.trans hx)
      exact absurd rfl hj
    · exact hne j hj p hp

/-! ### The load end -/

/-- The log of lawful records is lawful, and agrees with them (R118). -/
theorem Records.PurchaseLaw.purchasing (k : r.PurchaseLaw) : r.purchasing.Law ∧ r.purchasing.Ties r := by
  obtain ⟨hseq, hslots, hdistinct⟩ := k
  have hnumbered : r.Numbered := hdistinct
  have hmem {x : Purchase} (hx : x ∈ r.purchasing.log) : ∃ k : SlotId, ∃ p, readRecord r.slots[k] = some p ∧
      ¬r.Outnumbered k p ∧ x.seq = p.seq ∧ x.service = p.service ∧ x.eventId = p.eventId ∧ x.slot = k := by
    obtain ⟨j, p, hp, hkept, rfl⟩ := (Records.mem_log hnumbered).1 hx
    exact ⟨j, p, hp, hkept, Purchase.acknowledged_frame _ { p with slot := j }⟩
  have hbelow : ∀ x ∈ r.purchasing.log, 1 ≤ x.seq ∧ x.seq < r.seq.next := fun x hx => by
    obtain ⟨j, p, hp, -, heq, -⟩ := hmem hx
    rw [heq]
    exact ⟨(hslots j p hp).1, (hslots j p hp).2.1⟩
  have hnext : r.purchasing.seq.next = r.seq.next := by
    obtain ⟨hle, -, heq | ⟨x, hx, heq⟩⟩ := raisedNext_spec r.purchasing.log r.seq.next
    · exact heq
    · have hlt := (hbelow x hx).2
      exact le_antisymm (heq.trans_le hlt) hle
  have horder := Records.log_pairwise hnumbered
  have hslotsApart : r.purchasing.log.Pairwise fun a b => a.slot ≠ b.slot := by
    refine horder.imp_of_mem fun {a b} ha hb hlt heq => ?_
    obtain ⟨i, p, hp, -, hpseq, -, -, hpslot⟩ := hmem ha
    obtain ⟨j, q, hq, -, hqseq, -, -, hqslot⟩ := hmem hb
    obtain rfl : i = j := hpslot.symm.trans (heq.trans hqslot)
    obtain rfl : p = q := Option.some.inj (hp.symm.trans hq)
    omega
  have hprogrammes : r.purchasing.log.Pairwise fun a b => ¬(a.service = b.service ∧ a.eventId = b.eventId) := by
    refine horder.imp_of_mem fun {a b} ha hb hlt heq => ?_
    obtain ⟨i, p, hp, hkept, hpseq, hpservice, hpevent, -⟩ := hmem ha
    obtain ⟨j, q, hq, -, hqseq, hqservice, hqevent, -⟩ := hmem hb
    refine hkept ⟨j, ?_, q, hq, ?_, ?_, ?_⟩
    · rintro rfl
      obtain rfl : p = q := Option.some.inj (hp.symm.trans hq)
      omega
    · rw [← hqservice, ← hpservice]; exact heq.1.symm
    · rw [← hqevent, ← hpevent]; exact heq.2.symm
    · omega
  have hlen : r.purchasing.log.length ≤ 32 := by
    have hnodup : (r.purchasing.log.map Purchase.slot).Nodup := List.pairwise_map.2 hslotsApart
    have := hnodup.length_le_card
    rwa [List.length_map, Fintype.card_fin] at this
  obtain ⟨hone, hmax, hacked⟩ := hseq
  refine ⟨⟨⟨?_, ?_, ?_⟩, horder, ?_, hlen, hslotsApart, hprogrammes⟩, ⟨hnext.ge, fun j p hp q hq heq => ?_⟩⟩
  · rw [hnext]; exact hone
  · rw [hnext]; exact hmax
  · rw [hnext]; exact hacked
  · rw [hnext]; exact hbelow
  · obtain ⟨i, y, hy, -, hyseq, -, -, hyslot⟩ := hmem hq
    rw [hyslot]
    by_contra hij
    exact hdistinct i j hij y hy p hp (hyseq.symm.trans heq)

end

/-! ### Every step -/

section

variable {c : Instr} {s t : State}

theorem Does.keeps_purchaseLaw (h : Does c s t) (hs : s.PurchaseLaw) : t.PurchaseLaw := by
  obtain ⟨hep, hrec, hcarried, hties, hidle⟩ := hs
  have hrest := h.engine_notRunning hidle
  obtain hfresh | ⟨hload, rfl⟩ | ⟨hmoves, hphase⟩ := h.purchases hep
  · have hengine : t.ss.engine = none := by rw [hfresh.ss]
    have hrecords : t.ss.records = s.ss.records := by rw [hfresh.ss]
    refine ⟨?_, hrecords ▸ hrec, by rw [hengine]; nofun, fun hr => ?_, hrest⟩
    · rw [hfresh.ep]
      exact ⟨by decide, .nil, nofun, Nat.zero_le _, .nil, .nil⟩
    · obtain hp | hp := hfresh.phase <;> rw [hp] at hr <;> cases hr
  · have hlog : s.endLoad.ep = s.ss.records.purchasing := by simp
    have hrecords : s.endLoad.ss.records = s.ss.records := by simp
    obtain ⟨hlaw, hagree⟩ := hrec.purchasing
    have hsupply (i : RecordId) : (s.endLoad.supply i).PurchaseLaw s.ss.records ∧
        (s.endLoad.supply i).Ties s.endLoad.ep :=
      State.supply_lawful (hlog ▸ hlaw) (hlog ▸ hagree) i
    have hold : s.ss.engine = none := hidle (by rw [hload]; nofun)
    have hengine := h.engine_forall (P := fun c => c.PurchaseLaw s.ss.records ∧ c.Ties s.endLoad.ep)
      (by rw [hold]; nofun) hsupply
    refine ⟨hlog ▸ hlaw, hrecords ▸ hrec, fun w hw => hrecords ▸ (hengine w hw).1, fun _ => ?_, hrest⟩
    exact State.purchaseTies_iff.2 ⟨by rw [hrecords, hlog]; exact hagree, fun w hw => (hengine w hw).2⟩
  · have hlaw := hmoves.law hep
    by_cases hrun : s.phase = .running
    · obtain ⟨htie, hcontents⟩ := State.purchaseTies_iff.1 (hties hrun)
      have htie' := hmoves.ties htie hrec
      have hcontents' : ∀ w ∈ s.ss.engine, w.Ties t.ep := fun w hw =>
        hmoves.content_ties (hcontents w hw) (hcarried w hw)
      suffices hnew : t.ss.records.PurchaseLaw ∧ t.ep.Ties t.ss.records ∧
          ∀ w ∈ s.ss.engine, w.PurchaseLaw t.ss.records by
        obtain ⟨hrec', hagree, hold⟩ := hnew
        have hengine := h.engine_forall (P := fun c => c.PurchaseLaw t.ss.records ∧ c.Ties t.ep)
          (fun w hw => ⟨hold w hw, hcontents' w hw⟩) (State.supply_lawful hlaw hagree)
        exact ⟨hlaw, hrec', fun w hw => (hengine w hw).1,
          fun _ => State.purchaseTies_iff.2 ⟨hagree, fun w hw => (hengine w hw).2⟩, hrest⟩
      obtain heq | ⟨w, hw, heq⟩ := h.records <;> rw [heq]
      · exact ⟨hrec, htie', hcarried⟩
      · refine ⟨hrec.store (hcarried w hw), htie'.store (hcontents' w hw), fun y hy => ?_⟩
        obtain rfl : y = w := Option.some.inj (hy.symm.trans hw)
        exact (hcarried y hy).stored
    · have hengine : t.ss.engine = none := hrest fun hr => hrun (hphase hr)
      have hrecords : t.ss.records = s.ss.records := by
        obtain heq | ⟨w, hw, -⟩ := h.records
        · exact heq
        · rw [hidle hrun] at hw
          cases hw
      exact ⟨hlaw, hrecords ▸ hrec, by rw [hengine]; nofun, fun hr => absurd (hphase hr) hrun, hrest⟩

end

/-- Settles O9, by how each command moves the log and what the engine carries. -/
theorem stepsKeepThePurchaseLogLawful : Obligations.StepsKeepThePurchaseLogLawful :=
  fun _ _ hs h => step_keeps (P := State.PurchaseLaw) (fun _ _ k => k) (fun _ _ _ h k => h.keeps_purchaseLaw k) hs h

end Sys2Proof.Machine

/-! PROOF. The pages of QUERY MAP, QUERY GUIDE and QUERY PURCHASES: O29. -/

namespace Sys2Proof.Machine

/-! ### A page (R192) -/

section
variable {α : Type} {build : List α → Option α → List Byte}

/-- What a page comes to that has taken some items: those that follow, as many as the limit and 250 bytes allow. -/
theorem pageFrom_spec (n : Nat) (taken rest : List α) (h : (build taken rest.head?).length ≤ 250) :
    ∃ m, m ≤ n ∧ m ≤ rest.length ∧ pageFrom build n taken rest = build (taken ++ rest.take m) (rest.drop m).head? ∧
      (pageFrom build n taken rest).length ≤ 250 ∧ (m = min n rest.length ∨
        250 < (build (taken ++ rest.take (m + 1)) (rest.drop (m + 1)).head?).length) := by
  induction n generalizing taken rest with
  | zero =>
    have heq : pageFrom build 0 taken rest = build taken rest.head? := rfl
    exact ⟨0, le_rfl, Nat.zero_le _, by simp [heq], by rw [heq]; exact h, .inl (by simp)⟩
  | succ n ih =>
    cases rest with
    | nil =>
      have heq : pageFrom build (n + 1) taken [] = build taken none := rfl
      exact ⟨0, Nat.zero_le _, le_rfl, by simp [heq], by rw [heq]; exact h, .inl (by simp)⟩
    | cons x xs =>
      have heq : pageFrom build (n + 1) taken (x :: xs) = if 250 < (build (taken ++ [x]) xs.head?).length then
          build taken (some x) else pageFrom build n (taken ++ [x]) xs := rfl
      rw [heq]
      split_ifs with hfull
      · exact ⟨0, Nat.zero_le _, Nat.zero_le _, by simp, h, .inr (by simpa using hfull)⟩
      · obtain ⟨m, hm, hlen, hbody, hfits, hmost⟩ := ih (taken ++ [x]) xs (not_lt.1 hfull)
        refine ⟨m + 1, Nat.succ_le_succ hm, Nat.succ_le_succ hlen, by simp [hbody], hfits, hmost.imp (fun hmin => ?_)
          fun hover => by simpa using hover⟩
        rw [List.length_cons, hmin]
        omega

theorem pageFrom_pageOf (limit : Nat) (items : List α) (h : ∀ next, (build [] next).length ≤ 250) :
    PageOf items limit build (pageFrom build limit [] items) := by
  obtain ⟨m, hm, hlen, hbody, hfits, hmost⟩ := pageFrom_spec (build := build) limit [] items (h _)
  exact ⟨m, hm, hlen, hbody, hfits, hmost⟩

theorem length_u8 (n : Nat) : (u8 n).length = 1 := rfl

theorem length_u16 (n : Nat) : (u16 n).length = 2 := rfl

theorem length_u32 (n : Nat) : (u32 n).length = 4 := rfl

theorem opt_length_le {code : α → List Byte} {n : Nat} (h : ∀ a, (code a).length ≤ n) (x : Option α) :
    (opt code x).length ≤ n + 1 := by
  cases x with
  | none => exact Nat.le_add_left 1 n
  | some a => exact Nat.succ_le_succ (h a)

end

/-! ### The three pages -/

/-- What QUERY MAP builds from the entries returned and the one that follows (R14). -/
abbrev mapPageOf (m : Lineup) (got : List MapEntry) (next : Option MapEntry) : List Byte :=
  opt u8 m.version ++ u16 m.entries.length ++ (BitVec.ofNat 8 got.length :: (got.map entryFields).flatten) ++
    opt (fun e => u16 e.channel) next

theorem mapPage_pageOf (m : Lineup) (first count : Nat) :
    PageOf (m.entries.filter fun e => first ≤ e.channel) (min count 16) (mapPageOf m) (mapPage m first count) := by
  have hpage : mapPage m first count =
      pageFrom (mapPageOf m) (min count 16) [] (m.entries.filter fun e => first ≤ e.channel) := by
    rw [mapPage, funext entryBody_eq]
    rfl
  rw [hpage]
  refine pageFrom_pageOf _ _ fun next => ?_
  have hversion := opt_length_le (code := u8) (n := 1) (fun _ => le_rfl) m.version
  have hnext := opt_length_le (code := fun e : MapEntry => u16 e.channel) (n := 2) (fun _ => le_rfl) next
  simp only [mapPageOf, List.length_append, List.length_cons, List.length_nil, List.map_nil, List.flatten_nil,
    length_u16]
  omega

/-- What QUERY GUIDE builds from the programmes returned and the one that follows (R87). -/
abbrev guidePageOf (g : Guide) (service : Nat) (got : List GuideEvent) (next : Option GuideEvent) : List Byte :=
  u16 service ++ u16 (g.events.filter fun e => e.service == service).length ++
    (BitVec.ofNat 8 got.length :: (got.map fun e => u16 e.eventId ++ u32 e.start ++ u16 e.duration ++
      [BitVec.ofNat 8 e.rating, BitVec.ofNat 8 e.flags.toNat, BitVec.ofNat 8 e.price,
        BitVec.ofNat 8 e.preview, BitVec.ofNat 8 e.title.length]).flatten) ++
    opt (fun e => u32 e.start) next

theorem summaryBody_eq (e : GuideEvent) : summaryBody e = u16 e.eventId ++ u32 e.start ++ u16 e.duration ++
    [BitVec.ofNat 8 e.rating, BitVec.ofNat 8 e.flags.toNat, BitVec.ofNat 8 e.price,
      BitVec.ofNat 8 e.preview, BitVec.ofNat 8 e.title.length] := rfl

theorem guidePage_pageOf (g : Guide) (service minute count : Nat) :
    PageOf ((g.events.filter fun e => e.service == service).filter fun e => minute < e.finish) (min count 16)
      (guidePageOf g service) (guidePage g service minute count) := by
  have hpage : guidePage g service minute count = pageFrom (guidePageOf g service) (min count 16) []
      ((g.events.filter fun e => e.service == service).filter fun e => minute < e.finish) := by
    rw [guidePage, funext summaryBody_eq]
    rfl
  rw [hpage]
  refine pageFrom_pageOf _ _ fun next => ?_
  have hnext := opt_length_le (code := fun e : GuideEvent => u32 e.start) (n := 4) (fun _ => le_rfl) next
  simp only [guidePageOf, List.length_append, List.length_cons, List.length_nil, List.map_nil, List.flatten_nil,
    length_u16]
  omega

/-- What QUERY PURCHASES builds from the records returned and the one that follows (R115). -/
abbrev purchasePageOf (e : Purchasing) (got : List Purchase) (next : Option Purchase) : List Byte :=
  u8 e.log.length ++ u16 e.ent.limit ++ u16 e.creditUsed ++ u32 e.seq.next ++
    (BitVec.ofNat 8 got.length :: (got.map purchaseFields).flatten) ++ opt (fun p => u32 p.seq) next

theorem purchasePage_pageOf (e : Purchasing) (start count : Nat) :
    PageOf (e.log.filter fun p => start ≤ p.seq) (min count 8) (purchasePageOf e) (purchasePage e start count) := by
  have hpage : purchasePage e start count =
      pageFrom (purchasePageOf e) (min count 8) [] (e.log.filter fun p => start ≤ p.seq) := by
    rw [purchasePage, funext purchaseBody_eq]
    rfl
  rw [hpage]
  refine pageFrom_pageOf _ _ fun next => ?_
  have hnext := opt_length_le (code := fun p : Purchase => u32 p.seq) (n := 4) (fun _ => le_rfl) next
  simp only [purchasePageOf, List.length_append, List.length_cons, List.length_nil, List.map_nil, List.flatten_nil,
    length_u8, length_u16, length_u32]
  omega

/-! ### The queries (O29) -/

theorem readTwo_mapQuery {first count : Nat} (hf : first < 65536) (hc : count < 256) :
    readTwo 2 1 (u16 first ++ u8 count) = some (first, count) := by
  have hread := readTwo_eq (u16 first) (u8 count)
  rw [beNat_u16 hf, beNat_u8 hc] at hread
  exact hread

theorem readTwo_purchaseQuery {start count : Nat} (hs : start < 4294967296) (hc : count < 256) :
    readTwo 4 1 (u32 start ++ u8 count) = some (start, count) := by
  have hread := readTwo_eq (u32 start) (u8 count)
  rw [beNat_u32 hs, beNat_u8 hc] at hread
  exact hread

theorem readThree_guideQuery {service minute count : Nat} (hs : service < 65536) (hm : minute < 4294967296)
    (hc : count < 256) :
    readThree 2 4 1 (u16 service ++ u32 minute ++ u8 count) = some (service, minute, count) := by
  have hread := readThree_eq (u16 service) (u32 minute) (u8 count)
  rw [beNat_u16 hs, beNat_u32 hm, beNat_u8 hc] at hread
  exact hread

/-- Settles O29: each query by its fields' ranges, and its page by the items it takes. -/
theorem pageQueriesReplyAPageThatFits : Obligations.PageQueriesReplyAPageThatFits := by
  intro s r rest h
  refine ⟨fun hk first count hb hf hc => ⟨fun hbad => ?badMap, fun hlow hhigh hone => ⟨_, ?map, mapPage_pageOf ..⟩⟩,
    fun hk service minute count hb hs hm hc => ⟨fun hbad => ?badGuide, fun hlow hhigh hmax hone =>
      ⟨_, ?guide, guidePage_pageOf ..⟩⟩,
    fun hk start count hb hs hc => ⟨fun hbad => ?badPurchases, fun hlow hone =>
      ⟨_, ?purchases, purchasePage_pageOf ..⟩⟩⟩
  case badMap => exact h.answers rfl hk (hb ▸ readTwo_mapQuery hf hc) (if_neg (by simp only; omega))
  case map => exact h.answers rfl hk (hb ▸ readTwo_mapQuery hf hc) (if_pos ⟨hlow, hhigh, hone⟩)
  case badGuide =>
    exact h.answers rfl hk (hb ▸ readThree_guideQuery hs hm hc) (if_neg (by simp only [Config.maxGuideMinute]; omega))
  case guide =>
    exact h.answers rfl hk (hb ▸ readThree_guideQuery hs hm hc) (if_pos ⟨⟨hlow, hhigh⟩, hmax, hone⟩)
  case badPurchases =>
    exact h.answers rfl hk (hb ▸ readTwo_purchaseQuery hs hc) (if_neg (by simp only; omega))
  case purchases => exact h.answers rfl hk (hb ▸ readTwo_purchaseQuery hs hc) (if_pos ⟨hlow, hone⟩)

end Sys2Proof.Machine

/-! PROOF. STEP's walk over the map, and STEP as the SELECT of its target: O37. -/

namespace Sys2Proof.Machine

/-! ### The map as a ring (R51) -/

section

variable {before : Nat → Nat → Bool} {l : List MapEntry}

/-- The candidate that follows a channel in a direction, the entries being listed in it (R51 steps 3 and 5). -/
def ringNext (before : Nat → Nat → Bool) (l : List MapEntry) (c : Nat) : Option MapEntry :=
  (l.find? fun e => before c e.channel).or l.head?

theorem Lineup.nextAbove_eq (m : Lineup) (c : Nat) :
    m.nextAbove c = ringNext (fun a b => decide (a < b)) m.entries c := by
  unfold Lineup.nextAbove ringNext
  cases m.entries.find? fun e => decide (c < e.channel) <;> rfl

theorem Lineup.nextBelow_eq (m : Lineup) (c : Nat) :
    m.nextBelow c = ringNext (fun a b => decide (b < a)) m.entries.reverse c := by
  unfold Lineup.nextBelow ringNext Lineup.last
  rw [List.head?_reverse]
  cases m.entries.reverse.find? fun e => decide (e.channel < c) <;> rfl

/-- A strict order of channels. -/
structure Strict (before : Nat → Nat → Bool) : Prop where
  asymm : ∀ a b, before a b = true → before b a = false
  trans : ∀ a b c, before a b = true → before b c = true → before a c = true

theorem Strict.up : Strict fun a b => decide (a < b) :=
  ⟨fun a b h => by simp only [decide_eq_true_eq, decide_eq_false_iff_not] at *; omega,
    fun a b c h k => by simp only [decide_eq_true_eq] at *; omega⟩

theorem Strict.down : Strict fun a b => decide (b < a) :=
  ⟨fun a b h => by simp only [decide_eq_true_eq, decide_eq_false_iff_not] at *; omega,
    fun a b c h k => by simp only [decide_eq_true_eq] at *; omega⟩

theorem Strict.irrefl (h : Strict before) (a : Nat) : before a a = false := by
  by_contra hyes
  have hyes := Bool.eq_true_of_not_eq_false hyes
  rw [h.asymm a a hyes] at hyes
  cases hyes

/-- The entries stand in the direction's order. -/
abbrev Ascends (before : Nat → Nat → Bool) (l : List MapEntry) : Prop :=
  l.Pairwise fun a b => before a.channel b.channel = true

/-- Along the list, each entry is the candidate that follows the one before it. -/
theorem Ascends.chain (hb : Strict before) (hl : Ascends before l) :
    l.IsChain fun a b => ringNext before l a.channel = some b := by
  suffices hsuffix : ∀ rest pre, pre ++ rest = l → rest.IsChain fun a b => ringNext before l a.channel = some b from
    hsuffix l [] rfl
  intro rest
  induction rest with
  | nil => exact fun _ _ => .nil
  | cons a rest ih =>
    intro pre hpre
    cases rest with
    | nil => exact .singleton a
    | cons b rest =>
      refine List.isChain_cons_cons.2 ⟨?_, ih (pre ++ [a]) (by simp [← hpre])⟩
      rw [← hpre] at hl ⊢
      obtain ⟨-, hrest, hcross⟩ := List.pairwise_append.1 hl
      have hpast : (pre.find? fun e => before a.channel e.channel) = none :=
        List.find?_eq_none.2 fun x hx => by
          simp [hb.asymm _ _ (hcross x hx a List.mem_cons_self)]
      have hab : before a.channel b.channel = true := (List.pairwise_cons.1 hrest).1 b List.mem_cons_self
      simp [ringNext, List.find?_append, hpast, hb.irrefl, hab]

/-- The entries from a channel onwards stand behind the others. -/
theorem Ascends.split (hb : Strict before) (hl : Ascends before l) (c : Nat) :
    (l.filter fun e => !before c e.channel) ++ (l.filter fun e => before c e.channel) = l := by
  induction l with
  | nil => rfl
  | cons a l ih =>
    obtain ⟨ha, hl⟩ := List.pairwise_cons.1 hl
    cases hca : before c a.channel with
    | false => simp [hca, ih hl]
    | true =>
      have hall : ∀ e ∈ l, before c e.channel = true := fun e he => hb.trans _ _ _ hca (ha e he)
      have hnone : (l.filter fun e => !before c e.channel) = [] :=
        List.filter_eq_nil_iff.2 fun e he => by simp [hall e he]
      simp [hca, hnone, List.filter_eq_self.2 hall]

/-- The whole ring from a channel onwards, wrapping (R51). -/
def ringFrom (before : Nat → Nat → Bool) (l : List MapEntry) (c : Nat) : List MapEntry :=
  (l.filter fun e => before c e.channel) ++ l.filter fun e => !before c e.channel

theorem Ascends.ringFrom_head? (hb : Strict before) (hl : Ascends before l) (c : Nat) :
    (ringFrom before l c).head? = ringNext before l c := by
  have hsplit := hl.split hb c
  unfold ringFrom ringNext
  rw [List.head?_append, List.head?_filter]
  cases hfind : l.find? fun e => before c e.channel with
  | some e => rfl
  | none =>
    have hnone : (l.filter fun e => before c e.channel) = [] :=
      List.filter_eq_nil_iff.2 (List.find?_eq_none.1 hfind)
    rw [hnone, List.append_nil] at hsplit
    rw [hsplit]

theorem Ascends.ringFrom_length (hb : Strict before) (hl : Ascends before l) (c : Nat) :
    (ringFrom before l c).length = l.length := by
  have hlen := congrArg List.length (hl.split hb c)
  rw [List.length_append] at hlen
  rw [ringFrom, List.length_append, Nat.add_comm, hlen]

theorem Ascends.ringFrom_chain (hb : Strict before) (hl : Ascends before l) (c : Nat) :
    (ringFrom before l c).IsChain fun a b => ringNext before l a.channel = some b := by
  have hsplit := hl.split hb c
  have hchain := hl.chain hb
  have hboth : ((l.filter fun e => !before c e.channel) ++ (l.filter fun e => before c e.channel)).IsChain
      fun a b => ringNext before l a.channel = some b := hsplit.symm ▸ hchain
  refine hboth.right_of_append.append hboth.left_of_append fun x hx y hy => ?_
  have hlast : (l.find? fun e => before x.channel e.channel) = none := by
    refine List.find?_eq_none.2 fun e he => ?_
    obtain ⟨front, hfront⟩ := List.getLast?_eq_some_iff.1 hx
    have hends : l = ((l.filter fun e => !before c e.channel) ++ front) ++ [x] := by
      rw [List.append_assoc, ← hfront, hsplit]
    rw [hends] at hl he
    obtain ⟨-, -, hcross⟩ := List.pairwise_append.1 hl
    obtain he | he := List.mem_append.1 he
    · simp [hb.asymm _ _ (hcross e he x (List.mem_singleton_self x))]
    · simp [List.mem_singleton.1 he, hb.irrefl]
  have hfirst : l.head? = some y := by
    rw [← hsplit, List.head?_append, hy]
    rfl
  rw [ringNext, hlast, hfirst]
  rfl

end

/-! ### The walk (R51) -/

/-- A walk along a list whose members follow one another stops at its first eligible member. -/
theorem walk_eq_find? {ok : MapEntry → Bool} {d : Direction} {m : Lineup} {order : List MapEntry}
    (h : order.IsChain fun a b => d.next m a.channel = some b) :
    walk ok d m order.length order.head? = order.find? ok := by
  induction order with
  | nil => rfl
  | cons a rest ih =>
    have hstep : walk ok d m (a :: rest).length (a :: rest).head? =
        if ok a then some a else walk ok d m rest.length (d.next m a.channel) := rfl
    rw [hstep]
    cases hok : ok a with
    | true => rw [if_pos rfl, List.find?_cons_of_pos hok]
    | false =>
      rw [if_neg (by simp), List.find?_cons_of_neg (by simp [hok])]
      cases rest with
      | nil => cases d.next m a.channel <;> rfl
      | cons b rest =>
        obtain ⟨hab, hrest⟩ := List.isChain_cons_cons.1 h
        rw [hab]
        exact ih hrest

/-- The order in which STEP comes to the entries (R51). -/
def stepOrder (entries : List MapEntry) (channel : Option Nat) (up : Bool) : List MapEntry :=
  match channel, up with
  | none, true => entries
  | none, false => entries.reverse
  | some c, true => (entries.filter fun e => c < e.channel) ++ entries.filter fun e => e.channel ≤ c
  | some c, false => (entries.reverse.filter fun e => e.channel < c) ++ entries.reverse.filter fun e => c ≤ e.channel

/-- A direction as STEP's body codes it. -/
def Direction.ofUp (up : Bool) : Direction := if up then .up else .down

theorem stepOrder_walk {ok : MapEntry → Bool} {m : Lineup} (hm : m.Law) (channel : Option Nat) (up : Bool) :
    walk ok (.ofUp up) m m.entries.length ((Direction.ofUp up).start m channel) =
      (stepOrder m.entries channel up).find? ok := by
  obtain ⟨hasc, -⟩ := hm
  have hup : Ascends (fun a b => decide (a < b)) m.entries := hasc.imp fun h => decide_eq_true h
  have hdown : Ascends (fun a b => decide (b < a)) m.entries.reverse :=
    List.pairwise_reverse.2 (hasc.imp fun h => decide_eq_true h)
  have hnextUp : ∀ c, (Direction.ofUp true).next m c = ringNext (fun a b => decide (a < b)) m.entries c := m.nextAbove_eq
  have hnextDown : ∀ c, (Direction.ofUp false).next m c = ringNext (fun a b => decide (b < a)) m.entries.reverse c :=
    m.nextBelow_eq
  have hwalk {d : Direction} {order : List MapEntry} (hlen : order.length = m.entries.length)
      (hchain : order.IsChain fun a b => d.next m a.channel = some b) :
      walk ok d m m.entries.length order.head? = order.find? ok := hlen ▸ walk_eq_find? hchain
  cases up with
  | true =>
    cases channel with
    | none => exact hwalk rfl (by simpa only [hnextUp] using hup.chain Strict.up)
    | some c =>
      have horder : stepOrder m.entries (some c) true = ringFrom (fun a b => decide (a < b)) m.entries c := by
        simp only [stepOrder, ringFrom, ← decide_not, not_lt]
      have hstart : (Direction.ofUp true).start m (some c) = (stepOrder m.entries (some c) true).head? := by
        rw [horder, hup.ringFrom_head? Strict.up]
        exact hnextUp c
      rw [hstart]
      refine hwalk ?_ ?_
      · rw [horder, hup.ringFrom_length Strict.up]
      · rw [horder]
        have hchain := hup.ringFrom_chain Strict.up c
        simp only [← hnextUp] at hchain
        exact hchain
  | false =>
    cases channel with
    | none =>
      have hstart : (Direction.ofUp false).start m none = m.entries.reverse.head? := List.head?_reverse.symm
      rw [hstart]
      exact hwalk List.length_reverse (by simpa only [hnextDown] using hdown.chain Strict.down)
    | some c =>
      have horder : stepOrder m.entries (some c) false =
          ringFrom (fun a b => decide (b < a)) m.entries.reverse c := by
        simp only [stepOrder, ringFrom, ← decide_not, not_lt]
      have hstart : (Direction.ofUp false).start m (some c) = (stepOrder m.entries (some c) false).head? := by
        rw [horder, hdown.ringFrom_head? Strict.down]
        exact hnextDown c
      rw [hstart]
      refine hwalk ?_ ?_
      · rw [horder, hdown.ringFrom_length Strict.down, List.length_reverse]
      · rw [horder]
        have hchain := hdown.ringFrom_chain Strict.down c
        simp only [← hnextDown] at hchain
        exact hchain

/-! ### STEP as the SELECT of its target (O37) -/

theorem Lineup.Law.resolve_eq {m : Lineup} (hm : m.Law) {e : MapEntry} (he : e ∈ m.entries) :
    m.resolve e.channel = some e := by
  obtain ⟨hasc, -⟩ := hm
  have hnodup : (m.entries.map MapEntry.channel).Nodup := List.pairwise_map.2 (hasc.imp fun h => h.ne)
  cases hres : m.resolve e.channel with
  | none => exact absurd (beq_self_eq_true e.channel) (List.find?_eq_none.1 hres e he)
  | some x =>
    obtain ⟨hx, hch⟩ := Lineup.mem_of_resolve hres
    rw [List.inj_on_of_nodup_map hnodup hx he hch]

theorem State.stepTarget_eq {s : State} (hm : s.cm.committed.Law) (o : OutputId) (up : Bool) :
    s.stepTarget o (.ofUp up) =
      (stepOrder s.cm.committed.entries s.ou[o].channel up).find? (s.eligible o) :=
  stepOrder_walk hm s.ou[o].channel up

/-- What SELECT and STEP make of a state with one entry chosen (R49, R50, R52). -/
theorem State.selectChannel_eq {s : State} (hawake : s.awake = true) {o : OutputId} {e : MapEntry}
    (he : s.cm.committed.resolve e.channel = some e) :
    s.selectChannel o e.channel = ⟨(s.selectEntry o e).1, (s.selectEntry o e).2, []⟩ := by
  unfold State.selectChannel
  rw [hawake, he]
  rfl

theorem State.stepChannel_eq {s : State} (hawake : s.awake = true) {o : OutputId} {d : Direction} {e : MapEntry}
    (he : s.stepTarget o d = some e) :
    s.stepChannel o d = ⟨(s.selectEntry o e).1, (s.selectEntry o e).2, u16 e.channel⟩ := by
  unfold State.stepChannel
  rw [hawake, he]
  rfl

section
variable {s : State} {r : Request} {rest : List Request} {o : OutputId} {y : Served}

theorem State.Serves.step (h : s.Serves r rest) (hk : r.kind = 0x13) {up : Bool}
    (hb : r.body = [BitVec.ofNat 8 o.val, if up then 0 else 1])
    (hy : (s.unqueued rest).stepChannel o (.ofUp up) = y) :
    exec .step s = .next (y.state.pushReply ⟨0x93, r.tag, y.status, y.body⟩) := by
  have hread : readTwo 1 1 r.body = some (o.val, if up then 0 else 1) := by
    rw [hb, readTwo_bytes, toNat_ofNat_fin o]
    cases up <;> rfl
  have hserved := h.served (c := .step) (st := y.status) (body := y.body) (x := y.state) rfl hk hread (by
    simp only [dif_pos o.isLt]
    cases up <;> exact hy)
  rwa [hk] at hserved

theorem State.Serves.select (h : s.Serves r rest) (hk : r.kind = 0x12) {ch : Nat}
    (hb : r.body = BitVec.ofNat 8 o.val :: u16 ch) (hlow : 1 ≤ ch) (hhigh : ch ≤ 999)
    (hy : (s.unqueued rest).selectChannel o ch = y) :
    exec .select s = .next (y.state.pushReply ⟨0x92, r.tag, y.status, y.body⟩) := by
  have hread : readTwo 1 2 r.body = some (o.val, ch) := by
    rw [hb, readTwo_select (by omega), toNat_ofNat_fin o]
  have hserved := h.served (c := .select) (st := y.status) (body := y.body) (x := y.state) rfl hk hread (by
    simp only [dif_pos o.isLt, if_pos (And.intro hlow hhigh)]
    exact hy)
  rwa [hk] at hserved

end

theorem mem_of_mem_stepOrder {entries : List MapEntry} {channel : Option Nat} {up : Bool} {e : MapEntry}
    (h : e ∈ stepOrder entries channel up) : e ∈ entries := by
  cases channel <;> cases up <;>
    simp only [stepOrder, List.mem_append, List.mem_filter, List.mem_reverse] at h
  · exact h
  · exact h
  · exact h.elim And.left And.left
  · exact h.elim And.left And.left

/-- Settles O37, by the order in which the walk comes to the entries. -/
theorem stepSelectsTheFirstEligibleChannel : Obligations.StepSelectsTheFirstEligibleChannel := by
  intro s r rest o up h hk hb hmap hactive entries order
  have horder : order = stepOrder entries s.ou[o].channel up := rfl
  have hawake : (s.unqueued rest).awake = true := (s.unqueued rest).awake_iff.2 ⟨o, hactive⟩
  have htarget : (s.unqueued rest).stepTarget o (.ofUp up) = order.find? (s.eligible o) :=
    State.stepTarget_eq (s := s.unqueued rest) hmap o up
  change match order.find? (s.eligible o) with
    | none => _
    | some e => _
  cases hfind : order.find? (s.eligible o) with
  | none =>
    have hstep : (s.unqueued rest).stepChannel o (.ofUp up) = answer .noChannel (s.unqueued rest) := by
      unfold State.stepChannel
      rw [hawake, htarget, hfind]
      rfl
    have hserved := h.step hk hb hstep
    rw [State.answered, hk]
    exact hserved
  | some e =>
    have hmem : e ∈ entries := mem_of_mem_stepOrder (horder ▸ List.mem_of_find?_eq_some hfind)
    obtain ⟨-, -, hentries, -⟩ := id hmap
    obtain ⟨⟨hlow, hhigh⟩, -⟩ := hentries e hmem
    have hstep := h.step hk hb (State.stepChannel_eq hawake (htarget.trans hfind))
    refine ⟨_, _, hstep, ?_⟩
    have hselects : ({ s with cl := { s.cl with
        queue := ⟨0x12, r.tag, BitVec.ofNat 8 o.val :: u16 e.channel⟩ :: rest } } : State).Serves
        ⟨0x12, r.tag, BitVec.ofNat 8 o.val :: u16 e.channel⟩ rest := by
      obtain ⟨hrunning, hstopped, hroom, -⟩ := h
      exact ⟨hrunning, hstopped, hroom, rfl⟩
    exact hselects.select rfl rfl hlow hhigh (State.selectChannel_eq hawake (hmap.resolve_eq hmem))

end Sys2Proof.Machine

/-! PROOF. The arbiter as a run of moves: outputs take their seats on tuners, and tuners that nobody watches go IDLE.
What every move keeps of the pool, of the rooms already seated and of the transfers (sections 2.6 and 2.7). -/

namespace Sys2Proof.Machine

/-! ### Terms -/

section

variable {s t : State} {o p : OutputId} {u w : TunerId} {c : Nat}

/-- No output is attached to the tuner. -/
abbrev State.Vacant (s : State) (u : TunerId) : Prop := ∀ p : OutputId, ∀ sl, s.ou[p].attachment ≠ .tuner u sl

/-- No tuner at work is on the carrier. -/
abbrev State.Unmet (s : State) (c : Nat) : Prop :=
  ∀ u : TunerId, s.tp.tuners[u].state ≠ .idle → s.tp.tuners[u].carrier ≠ some c

/-- Every tuner at work has an output. -/
abbrev State.Manned (s : State) : Prop := ∀ u : TunerId, s.tp.tuners[u].state ≠ .idle → ¬s.Vacant u

theorem State.mem_attachedTo : p ∈ s.attachedTo u ↔ ∃ sl, s.ou[p].attachment = .tuner u sl := by
  rw [State.attachedTo, List.mem_filter, beq_iff_eq, and_iff_right (State.mem_allOutputs p)]
  cases s.ou[p].attachment <;> simp [Attachment.tuner?]

theorem State.attachedTo_eq_nil : s.attachedTo u = [] ↔ s.Vacant u := by
  simp only [List.eq_nil_iff_forall_not_mem, State.mem_attachedTo, not_exists, State.Vacant, ne_eq]

theorem State.emptied_iff : s.emptied u = true ↔ s.tp.tuners[u].state ≠ .idle ∧ s.Vacant u := by
  rw [State.emptied, Bool.and_eq_true, bne_iff_ne, List.isEmpty_iff, State.attachedTo_eq_nil]

theorem mem_allTuners (u : TunerId) : u ∈ allTuners := by fin_cases u <;> simp [allTuners]

theorem allTuners_ascend : allTuners.Pairwise (· < ·) := by decide

theorem State.holder_eq_some (h : s.holder c = some u) :
    s.tp.tuners[u].state ≠ .idle ∧ s.tp.tuners[u].carrier = some c := by
  have hu := List.find?_some h
  rwa [Bool.and_eq_true, bne_iff_ne, beq_iff_eq] at hu

theorem State.holder_eq_none : s.holder c = none ↔ s.Unmet c := by
  simp [State.holder, List.find?_eq_none, mem_allTuners, State.Unmet]

theorem State.idleTuner_eq_some (h : s.idleTuner = some u) :
    s.tp.tuners[u].state = .idle ∧ ∀ w < u, s.tp.tuners[w].state ≠ .idle := by
  have hu := List.find?_some h
  refine ⟨beq_iff_eq.1 hu, fun w hw => ?_⟩
  have hnot := find?_least allTuners_ascend h (mem_allTuners w) hw
  exact beq_eq_false_iff_ne.1 hnot

theorem State.idleTuner_eq_none : s.idleTuner = none ↔ ∀ u : TunerId, s.tp.tuners[u].state ≠ .idle := by
  simp [State.idleTuner, List.find?_eq_none, mem_allTuners]

theorem State.ownTuner_eq_some : s.ownTuner o = some u ↔ s.attachedTo u = [o] := by
  unfold State.ownTuner
  constructor
  · intro h
    split at h
    · split_ifs at h with halone
      exact Option.some.inj h ▸ halone
    · cases h
  · intro h
    obtain ⟨sl, hsl⟩ := State.mem_attachedTo.1 (h ▸ List.mem_singleton_self o : o ∈ s.attachedTo u)
    rw [hsl]
    exact if_pos h

/-! ### Moves -/

/-- An output takes a seat: it joins a tuner on its carrier, or a tuner that nobody watches starts on it. -/
inductive State.Seat (need : OutputId → Option MapEntry) (s : State) : State → Prop where
  | join (o : OutputId) (u : TunerId) (e : MapEntry) (free : ∀ w sl, s.ou[o].attachment ≠ .tuner w sl)
      (needs : need o = some e) (busy : s.tp.tuners[u].state ≠ .idle)
      (carrier : s.tp.tuners[u].carrier = some e.carrier) : Seat need s (s.attach o (.tuner u e.slot))
  | start (o : OutputId) (u : TunerId) (e : MapEntry) (free : ∀ w sl, s.ou[o].attachment ≠ .tuner w sl)
      (needs : need o = some e) (vacant : s.Vacant u) (unmet : s.Unmet e.carrier) :
      Seat need s ((s.attach o (.tuner u e.slot)).acquire u e.carrier)

/-- Tuners that nobody watches go IDLE, and nothing else changes (R31). -/
structure State.Vacates (s t : State) : Prop where
  rest : t = { s with tp := { s.tp with tuners := t.tp.tuners } }
  tuners : ∀ u : TunerId, t.tp.tuners[u] = s.tp.tuners[u] ∨ (t.tp.tuners[u] = .idle ∧ s.Vacant u)

/-- A move of the arbiter. -/
inductive State.Move (need : OutputId → Option MapEntry) (s : State) : State → Prop where
  | seat {t : State} (h : State.Seat need s t) : Move need s t
  | wait (o : OutputId) (e : MapEntry) (free : ∀ w sl, s.ou[o].attachment ≠ .tuner w sl) (needs : need o = some e)
      (resolves : s.entryOf o = some e) : Move need s (s.attach o .waiting)
  | vacate {t : State} (h : s.Vacates t) : Move need s t

/-- A run of seatings. -/
abbrev State.Seats (need : OutputId → Option MapEntry) : State → State → Prop :=
  Relation.ReflTransGen (State.Seat need)

/-- A run of moves. -/
abbrev State.Moves (need : OutputId → Option MapEntry) : State → State → Prop :=
  Relation.ReflTransGen (State.Move need)

variable {need : OutputId → Option MapEntry}

theorem State.Seats.moves (h : State.Seats need s t) : State.Moves need s t :=
  h.lift id fun _ _ => .seat

/-! ### The pool's laws under moves -/

/-- The laws of a pool in which every seat is on its output's carrier (R17, R18, R20, R33, R44). -/
structure State.Seated (need : OutputId → Option MapEntry) (s : State) : Prop where
  idle : ∀ u : TunerId, s.tp.tuners[u].state = .idle → s.tp.tuners[u] = .idle
  busy : ∀ u : TunerId, s.tp.tuners[u].state ≠ .idle → s.tp.tuners[u].carrier.isSome ∧
    s.tp.tuners[u].n0 = s.tp.tuners[u].carrier.map fun c => nominalDivisor c s.tp.ifKHz
  apart : ∀ u w : TunerId, u ≠ w → s.tp.tuners[u].state ≠ .idle → s.tp.tuners[w].state ≠ .idle →
    s.tp.tuners[u].carrier ≠ s.tp.tuners[w].carrier
  seats : ∀ (o : OutputId) (u : TunerId) (sl : ServiceSlot), s.ou[o].attachment = .tuner u sl →
    s.tp.tuners[u].state ≠ .idle ∧ ∃ e, need o = some e ∧ sl = e.slot ∧ s.tp.tuners[u].carrier = some e.carrier
  waits : ∀ o : OutputId, s.ou[o].attachment = .waiting → ∃ e, need o = some e ∧ s.entryOf o = some e

theorem State.acquire_allots (u : TunerId) (c : Nat) (s : State) : s.Allots (s.acquire u c) :=
  s.loadDivisor_allots u _

/-- An acquisition start leaves the outputs. -/
theorem State.acquire_ou (u : TunerId) (c : Nat) (s : State) : (s.acquire u c).ou = s.ou := by
  unfold State.acquire State.loadDivisor
  dsimp only
  split <;> rfl

theorem State.entryOf_congr (hou : t.ou[o].channel = s.ou[o].channel) (hcm : t.cm = s.cm) :
    t.entryOf o = s.entryOf o := by
  simp only [State.entryOf, hou, hcm]

theorem State.Allots.entryOf (h : s.Allots t) (o : OutputId) : t.entryOf o = s.entryOf o :=
  State.entryOf_congr (h.seats o).2 (by rw [h.rest])

theorem State.Seat.allots (h : State.Seat need s t) : s.Allots t := by
  cases h with
  | join o u e => exact s.attach_allots o _
  | start o u e => exact (s.attach_allots o _).trans (State.acquire_allots u _ _)

theorem State.Vacates.allots (h : s.Vacates t) : s.Allots t := by
  have hou : t.ou = s.ou := by rw [h.rest]
  have hpins : t.pins = s.pins := by rw [h.rest]
  refine ⟨?_, fun o => ⟨by rw [hou], by rw [hou]⟩, [], by simp [hpins]⟩
  rw [hou, hpins]
  exact h.rest

theorem State.Move.allots (h : State.Move need s t) : s.Allots t := by
  cases h with
  | seat h => exact h.allots
  | wait o => exact s.attach_allots o _
  | vacate h => exact h.allots

/-- What an attachment of one output leaves of the others. -/
theorem State.attach_att (o p : OutputId) (a : Attachment) (s : State) :
    (s.attach o a).ou[p].attachment = if p = o then a else s.ou[p].attachment := by
  split_ifs with h
  · subst h
    rw [State.attach_same]
  · rw [State.attach_other h]

/-- What a start leaves: its own seat and record, and all others as they were. -/
theorem State.start_att (o p : OutputId) (u : TunerId) (a : Attachment) (c : Nat) (s : State) :
    ((s.attach o a).acquire u c).ou[p].attachment = if p = o then a else s.ou[p].attachment := by
  rw [State.acquire_ou, State.attach_att]

theorem State.start_tuner (o : OutputId) (u w : TunerId) (a : Attachment) (c : Nat) (s : State) :
    ((s.attach o a).acquire u c).tp.tuners[w] = if w = u then s.startedOn c else s.tp.tuners[w] := by
  split_ifs with h
  · subst h
    exact State.acquire_same w c _
  · exact State.acquire_other h c _

/-- A room that is seated stays on its tuner, whose record stands. -/
theorem State.Move.keeps (h : State.Move need s t) {sl : ServiceSlot} (hatt : s.ou[o].attachment = .tuner u sl) :
    t.ou[o].attachment = .tuner u sl ∧ t.tp.tuners[u] = s.tp.tuners[u] := by
  cases h with
  | seat h =>
    cases h with
    | join p w e free =>
      rw [State.attach_att, if_neg (by rintro rfl; exact free u sl hatt)]
      exact ⟨hatt, rfl⟩
    | start p w e free _ vacant =>
      rw [State.start_att, State.start_tuner, if_neg (by rintro rfl; exact free u sl hatt),
        if_neg (by rintro rfl; exact vacant o sl hatt)]
      exact ⟨hatt, rfl⟩
  | wait p e free =>
    rw [State.attach_att, if_neg (by rintro rfl; exact free u sl hatt)]
    exact ⟨hatt, rfl⟩
  | vacate h =>
    have hou : t.ou = s.ou := by rw [h.rest]
    rw [hou]
    exact ⟨hatt, (h.tuners u).resolve_right fun hno => hno.2 o sl hatt⟩

theorem State.Moves.keeps (h : State.Moves need s t) {sl : ServiceSlot} (hatt : s.ou[o].attachment = .tuner u sl) :
    t.ou[o].attachment = .tuner u sl ∧ t.tp.tuners[u] = s.tp.tuners[u] := by
  induction h with
  | refl => exact ⟨hatt, rfl⟩
  | tail _ hmove ih =>
    obtain ⟨hseat, hrecord⟩ := hmove.keeps ih.1
    exact ⟨hseat, hrecord.trans ih.2⟩

theorem State.Seat.seated (h : State.Seat need s t) (k : s.Seated need) : t.Seated need := by
  cases h with
  | join o u e free needs busy carrier =>
    refine ⟨k.idle, k.busy, k.apart, fun p w sl hp => ?_, fun p hp => ?_⟩
    · rw [State.attach_att] at hp
      split_ifs at hp with hpo
      · obtain ⟨rfl, rfl⟩ := Attachment.tuner.inj hp
        exact ⟨busy, e, hpo ▸ needs, rfl, carrier⟩
      · exact k.seats p w sl hp
    · rw [State.attach_att] at hp
      split_ifs at hp
      rw [(s.attach_allots o _).entryOf]
      exact k.waits p hp
  | start o u e free needs vacant unmet =>
    have hif : ((s.attach o (.tuner u e.slot)).acquire u e.carrier).tp.ifKHz = s.tp.ifKHz := by
      have hallots := (s.attach_allots o (.tuner u e.slot)).trans (State.acquire_allots u e.carrier _)
      rw [hallots.rest]
    refine ⟨fun w hw => ?_, fun w hw => ?_, fun w x hne hw hx => ?_, fun p w sl hp => ?_, fun p hp => ?_⟩
    · rw [State.start_tuner] at hw ⊢
      split_ifs at hw ⊢
      · cases hw
      · exact k.idle w hw
    · rw [State.start_tuner] at hw ⊢
      rw [hif]
      split_ifs at hw ⊢
      · exact ⟨rfl, rfl⟩
      · exact k.busy w hw
    · rw [State.start_tuner] at hw hx ⊢
      rw [State.start_tuner]
      split_ifs at hw hx ⊢ with hwu hxu hxu
      · exact absurd (hwu.trans hxu.symm) hne
      · exact (unmet x hx).symm
      · exact unmet w hw
      · exact k.apart w x hne hw hx
    · rw [State.start_att] at hp
      rw [State.start_tuner]
      by_cases hpo : p = o
      · rw [if_pos hpo] at hp
        obtain ⟨rfl, rfl⟩ := Attachment.tuner.inj hp
        rw [if_pos rfl]
        exact ⟨nofun, e, hpo ▸ needs, rfl, rfl⟩
      · rw [if_neg hpo] at hp
        rw [if_neg (by rintro rfl; exact vacant p sl hp)]
        exact k.seats p w sl hp
    · rw [State.start_att] at hp
      split_ifs at hp
      rw [((s.attach_allots o (.tuner u e.slot)).trans (State.acquire_allots u e.carrier _)).entryOf]
      exact k.waits p hp

theorem State.Vacates.seated (h : s.Vacates t) (k : s.Seated need) : t.Seated need := by
  have hou : t.ou = s.ou := by rw [h.rest]
  have hif : t.tp.ifKHz = s.tp.ifKHz := by rw [h.rest]
  have hbusy (u : TunerId) (hu : t.tp.tuners[u].state ≠ .idle) : t.tp.tuners[u] = s.tp.tuners[u] :=
    (h.tuners u).resolve_right fun hno => hu (by rw [hno.1]; rfl)
  refine ⟨fun u hu => ?_, fun u hu => ?_, fun u w hne hu hw => ?_, fun o u sl ho => ?_, fun o ho => ?_⟩
  · obtain heq | ⟨heq, -⟩ := h.tuners u
    · rw [heq] at hu ⊢
      exact k.idle u hu
    · exact heq
  · have heq := hbusy u hu
    rw [heq] at hu ⊢
    rw [hif]
    exact k.busy u hu
  · have hequ := hbusy u hu
    have heqw := hbusy w hw
    rw [hequ] at hu ⊢
    rw [heqw] at hw ⊢
    exact k.apart u w hne hu hw
  · rw [hou] at ho
    rw [(h.tuners u).resolve_right fun hno => hno.2 o sl ho]
    exact k.seats o u sl ho
  · rw [hou] at ho
    rw [h.allots.entryOf]
    exact k.waits o ho

theorem State.Move.seated (h : State.Move need s t) (k : s.Seated need) : t.Seated need := by
  cases h with
  | seat h => exact h.seated k
  | wait o e free needs resolves =>
    refine ⟨k.idle, k.busy, k.apart, fun p u sl hp => ?_, fun p hp => ?_⟩
    · rw [State.attach_att] at hp
      split_ifs at hp
      exact k.seats p u sl hp
    · rw [(s.attach_allots o _).entryOf]
      rw [State.attach_att] at hp
      split_ifs at hp with hpo
      · exact hpo ▸ ⟨e, needs, resolves⟩
      · exact k.waits p hp
  | vacate h => exact h.seated k

theorem State.Moves.seated (h : State.Moves need s t) (k : s.Seated need) : t.Seated need := by
  induction h with
  | refl => exact k
  | tail _ hmove ih => exact hmove.seated ih

theorem State.Seat.manned (h : State.Seat need s t) (k : s.Manned) : t.Manned := by
  intro u hu hvacant
  have hstays : s.Vacant u := fun p sl hp =>
    hvacant p sl ((State.Move.seat h).keeps hp).1
  cases h with
  | join o w e => exact k u hu hstays
  | start o w e =>
    rw [State.start_tuner] at hu
    split_ifs at hu with huw
    · have hseat := hvacant o e.slot
      rw [State.start_att, if_pos rfl, huw] at hseat
      exact hseat rfl
    · exact k u hu hstays

theorem State.Seats.manned (h : State.Seats need s t) (k : s.Manned) : t.Manned := by
  induction h with
  | refl => exact k
  | tail _ hmove ih => exact hmove.manned ih

end

/-! ### Folds of moves -/

/-- A fold whose steps a relation admits, each of which leaves behind what it was for. -/
theorem foldl_each {α β : Type} {R : β → β → Prop} {I : β → Prop} {P : α → β → Prop} {f : β → α → β}
    (refl : ∀ s, R s s) (trans : ∀ {s t u}, R s t → R t u → R s u) (keeps : ∀ {s t}, R s t → I s → I t)
    (persists : ∀ {s t a}, I s → R s t → P a s → P a t) (step : ∀ s a, I s → R s (f s a) ∧ P a (f s a))
    (l : List α) {s : β} (hs : I s) : R s (l.foldl f s) ∧ ∀ a ∈ l, P a (l.foldl f s) := by
  induction l generalizing s with
  | nil => exact ⟨refl s, nofun⟩
  | cons a l ih =>
    obtain ⟨hstep, hdone⟩ := step s a hs
    have hnext := keeps hstep hs
    obtain ⟨hrest, hall⟩ := ih hnext
    exact ⟨trans hstep hrest, List.forall_mem_cons.2 ⟨persists hnext hrest hdone, hall⟩⟩

section

variable {need : OutputId → Option MapEntry} {s t : State} {o p : OutputId} {u w : TunerId} {c : Nat} {e : MapEntry}

/-! ### What runs of seatings keep -/

theorem State.Seats.seated (h : State.Seats need s t) (k : s.Seated need) : t.Seated need := h.moves.seated k

theorem State.Moves.allots (h : State.Moves need s t) : s.Allots t := by
  induction h with
  | refl => exact .refl s
  | tail _ hmove ih => exact ih.trans hmove.allots

theorem State.Seats.allots (h : State.Seats need s t) : s.Allots t := h.moves.allots

/-- Seatings only end a wait. -/
theorem State.Seat.waiting (h : State.Seat need s t) (hw : t.ou[p].attachment = .waiting) :
    s.ou[p].attachment = .waiting := by
  cases h with
  | join o u e =>
    rw [State.attach_att] at hw
    split_ifs at hw
    exact hw
  | start o u e =>
    rw [State.start_att] at hw
    split_ifs at hw
    exact hw

theorem State.Seats.waiting (h : State.Seats need s t) (hw : t.ou[p].attachment = .waiting) :
    s.ou[p].attachment = .waiting := by
  induction h with
  | refl => exact hw
  | tail _ hmove ih => exact ih (hmove.waiting hw)

/-- Where every tuner is at work and watched, seatings only join: the tuners stand. -/
theorem State.Seat.tuners (h : State.Seat need s t) (hbusy : ∀ u : TunerId, s.tp.tuners[u].state ≠ .idle)
    (k : s.Manned) : t.tp.tuners = s.tp.tuners := by
  cases h with
  | join => rfl
  | start o u e _ _ vacant => exact absurd vacant (k u (hbusy u))

theorem State.Seats.tuners (h : State.Seats need s t) (hbusy : ∀ u : TunerId, s.tp.tuners[u].state ≠ .idle)
    (k : s.Manned) : t.tp.tuners = s.tp.tuners := by
  induction h with
  | refl => rfl
  | tail hseats hmove ih =>
    exact (hmove.tuners (by rw [ih]; exact hbusy) (State.Seats.manned hseats k)).trans ih

/-- An output that waits finds no IDLE tuner and none on its carrier (R37, R38). -/
def State.ServedAt (need : OutputId → Option MapEntry) (p : OutputId) (s : State) : Prop :=
  s.ou[p].attachment = .waiting → ∀ e, need p = some e →
    ∀ u : TunerId, s.tp.tuners[u].state ≠ .idle ∧ s.tp.tuners[u].carrier ≠ some e.carrier

/-- No output waits that could be served. -/
abbrev State.Served (need : OutputId → Option MapEntry) (s : State) : Prop := ∀ p, State.ServedAt need p s

theorem State.Seats.servedAt (h : State.Seats need s t) (hmanned : s.Manned)
    (hserved : State.ServedAt need p s) : State.ServedAt need p t := by
  intro hw e he u
  have hwaits := h.waiting hw
  have hsame := h.tuners (fun u => (hserved hwaits e he u).1) hmanned
  rw [hsame]
  exact hserved hwaits e he u

/-! ### Waiting outputs taken along (R38) -/

theorem State.attachWaiters_seats (k : s.Seated need) {sl : ServiceSlot} (hon : s.ou[o].attachment = .tuner u sl)
    (hc : s.tp.tuners[u].carrier = some c) : State.Seats need s (s.attachWaiters u c) ∧
    ∀ p e, (s.attachWaiters u c).ou[p].attachment = .waiting → need p = some e → e.carrier ≠ c := by
  have hfold := foldl_each (R := State.Seats need)
    (I := fun x : State => x.Seated need ∧ x.ou[o].attachment = .tuner u sl ∧ x.tp.tuners[u].carrier = some c)
    (P := fun p x => x.ou[p].attachment = .waiting → ∀ e, need p = some e → e.carrier ≠ c)
    (f := fun acc p => if acc.ou[p].attachment = .waiting then
      match acc.entryOf p with
      | some e => if e.carrier = c then acc.attach p (.tuner u e.slot) else acc
      | none => acc
    else acc) (fun _ => .refl) (fun h h' => h.trans h')
    (fun h ⟨k, hon, hc⟩ => by
      obtain ⟨hseat, hrecord⟩ := h.moves.keeps hon
      exact ⟨h.seated k, hseat, by rw [hrecord]; exact hc⟩)
    (fun _ h hp hw => hp (h.waiting hw))
    (fun x p ⟨k, hon, hc⟩ => by
      split_ifs with hw
      · obtain ⟨e, hneed, hentry⟩ := k.waits p hw
        rw [hentry]
        simp only
        split_ifs with hec
        · refine ⟨.single (.join p u e (fun w sl => by rw [hw]; nofun) hneed (k.seats o u sl hon).1
            (by rw [hc, hec])), fun hno => ?_⟩
          rw [State.attach_att, if_pos rfl] at hno
          cases hno
        · refine ⟨.refl, fun _ e' he' => ?_⟩
          obtain rfl : e = e' := Option.some.inj (hneed.symm.trans he')
          exact hec
      · exact ⟨.refl, fun hno => absurd hno hw⟩)
    allOutputs ⟨k, hon, hc⟩
  exact ⟨hfold.1, fun p e hw he => hfold.2 p (State.mem_allOutputs p) hw e he⟩

theorem State.start_seats (k : s.Seated need) (free : ∀ w sl, s.ou[o].attachment ≠ .tuner w sl)
    (needs : need o = some e) (vacant : s.Vacant u) (unmet : s.Unmet e.carrier) :
    State.Seats need s (((s.attach o (.tuner u e.slot)).acquire u e.carrier).attachWaiters u e.carrier) ∧
      (∀ p x, (((s.attach o (.tuner u e.slot)).acquire u e.carrier).attachWaiters u e.carrier).ou[p].attachment =
        .waiting → need p = some x → x.carrier ≠ e.carrier) ∧
      (((s.attach o (.tuner u e.slot)).acquire u e.carrier).attachWaiters u e.carrier).ou[o].attachment =
        .tuner u e.slot ∧
      (((s.attach o (.tuner u e.slot)).acquire u e.carrier).attachWaiters u e.carrier).tp.tuners[u] =
        s.startedOn e.carrier := by
  have hstart : State.Seat need s ((s.attach o (.tuner u e.slot)).acquire u e.carrier) :=
    .start o u e free needs vacant unmet
  have hseat : ((s.attach o (.tuner u e.slot)).acquire u e.carrier).ou[o].attachment = .tuner u e.slot := by
    rw [State.start_att, if_pos rfl]
  have hrecord : ((s.attach o (.tuner u e.slot)).acquire u e.carrier).tp.tuners[u] = s.startedOn e.carrier := by
    rw [State.start_tuner, if_pos rfl]
  obtain ⟨hseats, hleft⟩ := State.attachWaiters_seats (hstart.seated k) hseat (c := e.carrier) (by rw [hrecord]; rfl)
  obtain ⟨hon, hstands⟩ := hseats.moves.keeps hseat
  exact ⟨.head hstart hseats, hleft, hon, hstands.trans hrecord⟩

/-! ### Allocation for an output without a tuner (R33) -/

/-- The first case of R33 that applies to an output without a tuner. -/
theorem State.choose_free (free : ∀ w sl, s.ou[o].attachment ≠ .tuner w sl) (c : Nat) :
    (∃ u, s.choose o c = .attach u ∧ s.tp.tuners[u].state ≠ .idle ∧ s.tp.tuners[u].carrier = some c) ∨
    (∃ u, s.choose o c = .start u ∧ s.tp.tuners[u].state = .idle ∧ (∀ w < u, s.tp.tuners[w].state ≠ .idle) ∧
      s.Unmet c) ∨
    (s.choose o c = .none ∧ (∀ u : TunerId, s.tp.tuners[u].state ≠ .idle) ∧ s.Unmet c) := by
  have hown : s.ownTuner o = none := by
    rw [Option.eq_none_iff_forall_ne_some]
    intro u hu
    rw [State.ownTuner_eq_some] at hu
    obtain ⟨sl, hsl⟩ := State.mem_attachedTo.1 (hu ▸ List.mem_singleton_self o : o ∈ s.attachedTo u)
    exact free u sl hsl
  unfold State.choose
  rw [hown]
  cases hholder : s.holder c with
  | some u => exact .inl ⟨u, rfl, State.holder_eq_some hholder⟩
  | none =>
    have hunmet := State.holder_eq_none.1 hholder
    cases hidle : s.idleTuner with
    | some u =>
      obtain ⟨hu, hlowest⟩ := State.idleTuner_eq_some hidle
      exact .inr (.inl ⟨u, rfl, hu, hlowest, hunmet⟩)
    | none => exact .inr (.inr ⟨rfl, State.idleTuner_eq_none.1 hidle, hunmet⟩)

theorem State.Seated.vacant (k : s.Seated need) (hu : s.tp.tuners[u].state = .idle) : s.Vacant u :=
  fun p sl hp => (k.seats p u sl hp).1 hu

/-- An allocation seats its output, and leaves no waiting output on the carrier; or no tuner can serve. -/
theorem State.place_free (k : s.Seated need) (free : ∀ w sl, s.ou[o].attachment ≠ .tuner w sl)
    (needs : need o = some e) : State.Seats need s (s.place o e.carrier e.slot (s.choose o e.carrier)) ∧
      ((∃ u, s.choose o e.carrier ≠ .none ∧
          (s.place o e.carrier e.slot (s.choose o e.carrier)).ou[o].attachment = .tuner u e.slot) ∨
        (s.choose o e.carrier = .none ∧ (∀ u : TunerId, s.tp.tuners[u].state ≠ .idle) ∧ s.Unmet e.carrier)) := by
  obtain ⟨u, hch, hbusy, hcarrier⟩ | ⟨u, hch, hidle, -, hunmet⟩ | ⟨hch, hrest⟩ := State.choose_free free e.carrier <;>
    rw [hch]
  · exact ⟨.single (.join o u e free needs hbusy hcarrier),
      .inl ⟨u, nofun, by rw [State.place, State.attach_att, if_pos rfl]⟩⟩
  · obtain ⟨hseats, -, hon, -⟩ := State.start_seats k free needs (k.vacant hidle) hunmet
    exact ⟨hseats, .inl ⟨u, nofun, hon⟩⟩
  · exact ⟨.refl, .inr ⟨rfl, hrest⟩⟩

/-! ### Service of the waiting list (R37) -/

/-- One output of the waiting list is offered allocation. -/
def State.offer (s : State) (o : OutputId) : State :=
  if s.ou[o].attachment = .waiting then
    match s.entryOf o with
    | some e => s.place o e.carrier e.slot (s.choose o e.carrier)
    | none => s
  else s

theorem State.serveWaiting_eq (s : State) : s.serveWaiting = allOutputs.foldl State.offer s := rfl

theorem State.offer_of_not_waiting (h : s.ou[o].attachment ≠ .waiting) : s.offer o = s := if_neg h

theorem State.offer_of_waiting (h : s.ou[o].attachment = .waiting) (he : s.entryOf o = some e) :
    s.offer o = s.place o e.carrier e.slot (s.choose o e.carrier) := by
  simp only [State.offer, h, he, if_true]

theorem State.offer_seats (k : s.Seated need) : State.Seats need s (s.offer o) ∧ State.ServedAt need o (s.offer o) := by
  by_cases hw : s.ou[o].attachment = .waiting
  · obtain ⟨e, hneed, hentry⟩ := k.waits o hw
    rw [State.offer_of_waiting hw hentry]
    obtain ⟨hseats, ⟨u, -, hseat⟩ | ⟨hch, hbusy, hunmet⟩⟩ :=
      State.place_free k (fun w sl => by rw [hw]; nofun) hneed
    · exact ⟨hseats, fun hno => by rw [hseat] at hno; cases hno⟩
    · refine ⟨hseats, fun _ e' he' u => ?_⟩
      obtain rfl : e = e' := Option.some.inj (hneed.symm.trans he')
      rw [hch]
      exact ⟨hbusy u, hunmet u (hbusy u)⟩
  · rw [State.offer_of_not_waiting hw]
    exact ⟨.refl, fun hno => absurd hno hw⟩

theorem State.foldl_offer_seats (k : s.Seated need) (hmanned : s.Manned) (l : List OutputId) :
    State.Seats need s (l.foldl State.offer s) ∧ ∀ p ∈ l, State.ServedAt need p (l.foldl State.offer s) :=
  foldl_each (R := State.Seats need) (I := fun x : State => x.Seated need ∧ x.Manned) (P := State.ServedAt need)
    (f := State.offer) (fun _ => .refl) (fun h h' => h.trans h') (fun h ⟨k, hm⟩ => ⟨h.seated k, h.manned hm⟩)
    (fun ⟨_, hm⟩ h hp => h.servedAt hm hp)
    (fun _ o ⟨k, _⟩ => State.offer_seats (o := o) k) l ⟨k, hmanned⟩

theorem State.serveWaiting_seats (k : s.Seated need) (hmanned : s.Manned) :
    State.Seats need s s.serveWaiting ∧ s.serveWaiting.Served need := by
  obtain ⟨hseats, hserved⟩ := State.foldl_offer_seats k hmanned allOutputs
  exact ⟨hseats, fun p => hserved p (State.mem_allOutputs p)⟩

/-- Where nobody waits, nobody is served. -/
theorem State.foldl_offer_of_not_waiting {l : List OutputId} (h : ∀ p ∈ l, s.ou[p].attachment ≠ .waiting) :
    l.foldl State.offer s = s := by
  induction l with
  | nil => rfl
  | cons p l ih =>
    obtain ⟨hp, hl⟩ := List.forall_mem_cons.1 h
    rw [List.foldl_cons, State.offer_of_not_waiting hp, ih hl]

theorem State.serveWaiting_of_not_waiting (h : ∀ p : OutputId, s.ou[p].attachment ≠ .waiting) : s.serveWaiting = s :=
  State.foldl_offer_of_not_waiting fun p _ => h p

theorem State.attachWaiters_tp (u : TunerId) (c : Nat) (s : State) : (s.attachWaiters u c).tp = s.tp := by
  refine foldl_related (R := fun a b : State => b.tp = a.tp) (fun _ => rfl) (fun h k => k.trans h) (fun a p => ?_) _ s
  split_ifs
  · split
    · split_ifs <;> rfl
    · rfl
  · rfl

theorem State.start_tuners (o : OutputId) (u v : TunerId) (a : Attachment) (c : Nat) (s : State) :
    (((s.attach o a).acquire u c).attachWaiters u c).tp.tuners[v] = if v = u then s.startedOn c else s.tp.tuners[v] := by
  rw [State.attachWaiters_tp, State.start_tuner]

/-- The first output of the waiting list is seated on the lowest IDLE tuner, and others after it (R37). -/
theorem State.serveWaiting_head (k : s.Seated need) (hmanned : s.Manned) (hidle : s.tp.tuners[u].state = .idle)
    (hlowest : ∀ v < u, s.tp.tuners[v].state ≠ .idle) (hfirst : s.waitingList.head? = some o) (needs : need o = some e)
    (unmet : s.Unmet e.carrier) :
    State.Seats need (((s.attach o (.tuner u e.slot)).acquire u e.carrier).attachWaiters u e.carrier)
      s.serveWaiting := by
  rw [State.waitingList, List.head?_filter] at hfirst
  obtain ⟨hwaits, before, after, hlist, hbefore⟩ := List.find?_eq_some_iff_append.1 hfirst
  rw [beq_iff_eq] at hwaits
  have free (w : TunerId) (sl : ServiceSlot) : s.ou[o].attachment ≠ .tuner w sl := by rw [hwaits]; nofun
  obtain ⟨x, hneed, hentry⟩ := k.waits o hwaits
  obtain rfl : e = x := Option.some.inj (needs.symm.trans hneed)
  have hchoose : s.choose o e.carrier = .start u := by
    obtain ⟨w, -, hw, hcarrier⟩ | ⟨w, hch, hw, hleast, -⟩ | ⟨-, hno, -⟩ := State.choose_free free e.carrier
    · exact absurd hcarrier (unmet w hw)
    · rw [hch, le_antisymm (not_lt.1 fun hlt => hleast u hlt hidle) (not_lt.1 fun hlt => hlowest w hlt hw)]
    · exact absurd hidle (hno u)
  have hpassed : before.foldl State.offer s = s :=
    State.foldl_offer_of_not_waiting fun p hp => by simpa using hbefore p hp
  obtain ⟨hseats, -⟩ := State.start_seats k free needs (k.vacant hidle) unmet
  rw [State.serveWaiting_eq, hlist, List.foldl_append, hpassed, List.foldl_cons,
    State.offer_of_waiting hwaits hentry, hchoose, State.place]
  exact (State.foldl_offer_seats (State.Seats.seated hseats k) (State.Seats.manned hseats hmanned) after).1

/-- The one IDLE tuner goes to the first output of the waiting list (R37). -/
theorem State.serveWaiting_first (k : s.Seated need) (hmanned : s.Manned) (hidle : s.tp.tuners[u].state = .idle)
    (hbusy : ∀ v : TunerId, v ≠ u → s.tp.tuners[v].state ≠ .idle) (hfirst : s.waitingList.head? = some o)
    (needs : need o = some e) (unmet : s.Unmet e.carrier) (v : TunerId) :
    s.serveWaiting.tp.tuners[v] = if v = u then s.startedOn e.carrier else s.tp.tuners[v] := by
  have free (w : TunerId) (sl : ServiceSlot) : s.ou[o].attachment ≠ .tuner w sl := by
    have hmem := List.mem_of_mem_head? hfirst
    rw [beq_iff_eq.1 (List.mem_filter.1 hmem).2]
    nofun
  have hrest := State.serveWaiting_head k hmanned hidle (fun v hv => hbusy v hv.ne) hfirst needs unmet
  obtain ⟨hseats, -⟩ := State.start_seats k free needs (k.vacant hidle) unmet
  rw [State.Seats.tuners hrest (fun w => ?_) (State.Seats.manned hseats hmanned), State.start_tuners]
  rw [State.start_tuners]
  split_ifs with hwu
  · nofun
  · exact hbusy w hwu

/-! ### Tuners that lose their outputs (R31, R34 step 3) -/

theorem State.idleEmptied_tuner (s : State) (u : TunerId) :
    s.idleEmptied.tp.tuners[u] = if s.emptied u then .idle else s.tp.tuners[u] := by
  have hfold := foldl_each (R := fun a b : State => ∀ w : TunerId, a.tp.tuners[w] = b.tp.tuners[w] ∨
      (s.emptied w = true ∧ b.tp.tuners[w] = .idle)) (I := fun _ => True)
    (P := fun w x => s.emptied w = true → x.tp.tuners[w] = .idle)
    (f := fun acc t => if s.emptied t then acc.setTuner t .idle else acc)
    (fun _ _ => .inl rfl)
    (fun h h' w => by
      obtain heq | hidle := h' w
      · rw [← heq]
        exact h w
      · exact .inr hidle)
    (fun _ _ => trivial)
    (fun _ h hp he => by
      obtain heq | hidle := h _
      · rw [← heq]
        exact hp he
      · exact hidle.2)
    (fun x w _ => by
      split_ifs with he
      · refine ⟨fun y => ?_, fun _ => State.setTuner_same w _ x⟩
        by_cases hy : y = w
        · subst hy
          exact .inr ⟨he, State.setTuner_same y _ x⟩
        · exact .inl (State.setTuner_other hy _ x).symm
      · exact ⟨fun _ => .inl rfl, fun hyes => absurd hyes he⟩)
    allTuners (s := s) trivial
  split_ifs with he
  · exact hfold.2 u (mem_allTuners u) he
  · exact ((hfold.1 u).resolve_right fun hidle => he hidle.1).symm

theorem State.idleEmptied_rest (s : State) :
    s.idleEmptied = { s with tp := { s.tp with tuners := s.idleEmptied.tp.tuners } } :=
  foldl_related (R := fun a b : State => b = { a with tp := { a.tp with tuners := b.tp.tuners } }) (fun _ => rfl)
    (fun h k => by rw [h] at k; exact k) (fun a u => by split_ifs <;> rfl) allTuners s

theorem State.idleEmptied_vacates (s : State) : s.Vacates s.idleEmptied := by
  refine ⟨s.idleEmptied_rest, fun u => ?_⟩
  rw [State.idleEmptied_tuner]
  split_ifs with he
  · exact .inr ⟨rfl, (State.emptied_iff.1 he).2⟩
  · exact .inl rfl

theorem State.idleEmptied_manned (s : State) : s.idleEmptied.Manned := by
  intro u hu hvacant
  have hou : s.idleEmptied.ou = s.ou := by rw [s.idleEmptied_rest]
  rw [State.idleEmptied_tuner] at hu
  split_ifs at hu with he
  · exact hu rfl
  · exact he (State.emptied_iff.2 ⟨hu, fun p sl hp => hvacant p sl (by rw [hou]; exact hp)⟩)

/-- After a detachment: the pool is manned again, and served where a tuner went IDLE, or nothing is to be done. -/
theorem State.release_cases (k : s.Seated need) : (s.Manned ∧ s.release = s) ∨
    (s.release = s.idleEmptied.serveWaiting ∧ s.idleEmptied.Seated need ∧ s.idleEmptied.Manned ∧
      State.Seats need s.idleEmptied s.release ∧ s.release.Served need) := by
  unfold State.release
  split_ifs with he
  · have hidle := s.idleEmptied_vacates.seated k
    obtain ⟨hseats, hserved⟩ := State.serveWaiting_seats hidle s.idleEmptied_manned
    exact .inr ⟨rfl, hidle, s.idleEmptied_manned, hseats, hserved⟩
  · refine .inl ⟨fun u hu hvacant => he ?_, rfl⟩
    exact List.any_eq_true.2 ⟨u, mem_allTuners u, State.emptied_iff.2 ⟨hu, hvacant⟩⟩

theorem State.release_of_manned (hmanned : s.Manned) : s.release = s := by
  unfold State.release
  refine if_neg fun he => ?_
  obtain ⟨u, -, hu⟩ := List.any_eq_true.1 he
  obtain ⟨hbusy, hvacant⟩ := State.emptied_iff.1 hu
  exact hmanned u hbusy hvacant

theorem State.release_moves (k : s.Seated need) : State.Moves need s s.release ∧ s.release.Manned ∧
    (s.Served need → s.release.Served need) := by
  obtain ⟨hmanned, heq⟩ | ⟨-, hseated, hmanned, hseats, hserved⟩ := State.release_cases k
  · rw [heq]
    exact ⟨.refl, hmanned, id⟩
  · exact ⟨.head (.vacate s.idleEmptied_vacates) hseats.moves, hseats.manned hmanned, fun _ => hserved⟩

/-! ### Allocation or the waiting list (R46, R54) -/

/-- Where every tuner at work is watched, an allocation for an output without a tuner is its seating alone. -/
theorem State.allocateOrWait_free (k : s.Seated need) (hmanned : s.Manned)
    (free : ∀ w sl, s.ou[o].attachment ≠ .tuner w sl) (needs : need o = some e) (resolves : s.entryOf o = some e) :
    State.Moves need s (s.allocateOrWait o e) ∧ (s.allocateOrWait o e).Manned ∧
      (s.Served need → (s.allocateOrWait o e).Served need) ∧
      ((∃ u, (s.allocateOrWait o e).ou[o].attachment = .tuner u e.slot) ∨
        ((s.allocateOrWait o e).ou[o].attachment = .waiting ∧ ∀ u : TunerId, s.tp.tuners[u].state ≠ .idle)) := by
  obtain ⟨hseats, ⟨u, hch, hseat⟩ | ⟨hch, hbusy, hunmet⟩⟩ := State.place_free k free needs
  · have hplaced := hseats.manned hmanned
    have hrelease := State.release_of_manned hplaced
    have heq : s.allocateOrWait o e = s.place o e.carrier e.slot (s.choose o e.carrier) := by
      unfold State.allocateOrWait State.allocate
      cases hc : s.choose o e.carrier <;> simp only [hc] at hrelease hch ⊢
      · exact hrelease
      · exact hrelease
      · exact hrelease
      · exact absurd rfl hch
    rw [heq]
    exact ⟨hseats.moves, hplaced, fun hserved p => hseats.servedAt hmanned (hserved p), .inl ⟨u, hseat⟩⟩
  · have heq : s.allocateOrWait o e = s.attach o .waiting := by
      unfold State.allocateOrWait State.allocate
      rw [hch]
    rw [heq]
    refine ⟨.single (.wait o e free needs resolves), fun u hu hvacant => hmanned u hu fun p sl hp => ?_,
      fun hserved p hw x hx u => ?_, .inr ⟨by rw [State.attach_att, if_pos rfl], hbusy⟩⟩
    · refine hvacant p sl ?_
      rw [State.attach_att, if_neg (by rintro rfl; exact free u sl hp)]
      exact hp
    · by_cases hpo : p = o
      · subst hpo
        obtain rfl : e = x := Option.some.inj (needs.symm.trans hx)
        exact ⟨hbusy u, hunmet u (hbusy u)⟩
      · rw [State.attach_att, if_neg hpo] at hw
        exact hserved p hw x hx u

end

end Sys2Proof.Machine

/-! PROOF. What an event that retunes leaves on the pins: route words as routes change, divisors as tuners start. -/

namespace Sys2Proof.Machine

section

variable {s t x old : State} {o p : OutputId} {u : TunerId} {need : OutputId → Option MapEntry}

/-! ### Pin moves by kind -/

theorem State.drives_iff {w : List PinEvent} (h : t.pins.wave = s.pins.wave ++ w) (e : PinEvent) :
    s.Drives t e ↔ e ∈ w := by
  constructor
  · rintro ⟨l, hl, he⟩
    rw [h, List.append_cancel_left_eq] at hl
    exact hl ▸ he
  · exact fun he => ⟨w, h, he⟩

/-- A move of a gate. -/
def PinEvent.IsGate : PinEvent → Prop
  | .picture _ _ => True
  | .descramble _ _ => True
  | _ => False

/-- Between two states the pins have moved gates alone. -/
structure State.Gates (s t : State) : Prop where
  wave : ∃ w, t.pins.wave = s.pins.wave ++ w ∧ ∀ e ∈ w, e.IsGate

theorem State.Gates.of_wave (h : t.pins.wave = s.pins.wave := by rfl) : s.Gates t :=
  ⟨[], by rw [h, List.append_nil], nofun⟩

theorem State.Gates.trans (h : s.Gates t) (k : t.Gates x) : s.Gates x := by
  obtain ⟨v, hv, hgate⟩ := h.wave
  obtain ⟨w, hw, hgate'⟩ := k.wave
  refine ⟨v ++ w, by rw [hw, hv, List.append_assoc], fun e he => ?_⟩
  exact (List.mem_append.1 he).elim (hgate e) (hgate' e)

theorem State.drivePicture_isGate (o : OutputId) (b : Bool) (s : State) : s.Gates (s.drivePicture o b) := by
  unfold State.drivePicture
  split_ifs
  · exact .of_wave
  · exact ⟨[.picture o b], rfl, fun e he => by rw [List.mem_singleton.1 he]; trivial⟩

theorem State.driveDescramble_isGate (o : OutputId) (b : Bool) (s : State) : s.Gates (s.driveDescramble o b) := by
  unfold State.driveDescramble
  split_ifs
  · exact .of_wave
  · exact ⟨[.descramble o b], rfl, fun e he => by rw [List.mem_singleton.1 he]; trivial⟩

theorem State.gatesOff_isGate (o : OutputId) (s : State) : s.Gates (s.gatesOff o) :=
  (s.driveDescramble_isGate o false).trans (State.drivePicture_isGate o false _)

theorem State.evaluate_isGate (o : OutputId) (s : State) : s.Gates (s.evaluate o) := by
  have hdrive (r : DecisionRecord) (a : State) : a.Gates (a.driveGates o r.picture r.descramble) := by
    unfold State.driveGates
    split_ifs
    · exact (a.drivePicture_isGate o _).trans (State.driveDescramble_isGate o _ _)
    · exact (a.driveDescramble_isGate o _).trans (State.drivePicture_isGate o _ _)
  refine .trans (.of_wave (by rw [s.endStalePass_pins o])) (t := s.endStalePass o) ?_
  refine .trans (t := ({ s.endStalePass o with ae := (s.endStalePass o).ae.set o ((s.endStalePass o).decisionRecord o) } :
    State)) .of_wave ?_
  exact (hdrive _ _).trans (.of_wave (by rw [State.evaluate, State.recordDecision_pins]))

theorem State.report_isGate (os : List OutputId) (s : State) : s.Gates (s.report os) := by
  have hpins : (s.report os).pins = (s.evaluateAll os).pins := by simp [State.report]
  refine .trans (foldl_related (fun _ => .of_wave) .trans (fun a p => ?_) allOutputs s) (.of_wave (by rw [hpins]; rfl))
  split_ifs
  · exact a.evaluate_isGate p
  · exact .of_wave

/-! ### Route words (R56) -/

theorem State.loadRoute_events (o : OutputId) (r : Option Route) (s : State) :
    ∃ w, (s.loadRoute o r).pins.wave = s.pins.wave ++ w ∧ (∀ u y, PinEvent.divisor u y ∉ w) ∧
      ∀ p y, PinEvent.route p y ∈ w ↔ p = o ∧ y = routeWord r := by
  obtain ⟨w, hw, hgates⟩ := (s.gatesOff_isGate o).wave
  have hload : (s.loadRoute o r).pins.wave = s.pins.wave ++ (w ++ [.route o (routeWord r)]) := by
    rw [← List.append_assoc, ← hw]
    rfl
  refine ⟨_, hload, fun u y he => ?_, fun p y => ?_⟩
  · obtain he | he := List.mem_append.1 he
    · exact hgates _ he
    · cases List.mem_singleton.1 he
  · rw [List.mem_append, List.mem_singleton, PinEvent.route.injEq]
    exact or_iff_right fun he => hgates _ he

/-- The loads of an event: no divisor, and a route word exactly where the route has changed, the new route's. -/
theorem State.loadRoutes_events (old x : State) : ∃ w, (State.loadRoutes old x).pins.wave = x.pins.wave ++ w ∧
    (∀ u y, PinEvent.divisor u y ∉ w) ∧
    ∀ o y, PinEvent.route o y ∈ w ↔ old.route o ≠ x.route o ∧ y = routeWord (x.route o) := by
  suffices h : ∀ (l : List OutputId) (a : State), ∃ w,
      (l.foldl (fun acc o => if old.route o = x.route o then acc else acc.loadRoute o (x.route o)) a).pins.wave =
        a.pins.wave ++ w ∧ (∀ u y, PinEvent.divisor u y ∉ w) ∧
      ∀ o y, PinEvent.route o y ∈ w ↔ o ∈ l ∧ old.route o ≠ x.route o ∧ y = routeWord (x.route o) by
    obtain ⟨w, hw, hdivisor, hroute⟩ := h allOutputs x
    exact ⟨w, hw, hdivisor, fun o y => (hroute o y).trans (and_iff_right (State.mem_allOutputs o))⟩
  intro l
  induction l with
  | nil => exact fun a => ⟨[], by simp⟩
  | cons o l ih =>
    intro a
    by_cases hsame : old.route o = x.route o
    · obtain ⟨w, hw, hdivisor, hroute⟩ := ih a
      refine ⟨w, by rw [List.foldl_cons, if_pos hsame]; exact hw, hdivisor, fun p y => (hroute p y).trans ?_⟩
      rw [List.mem_cons, or_and_right]
      refine (or_iff_right ?_).symm
      rintro ⟨rfl, hne, -⟩
      exact hne hsame
    · obtain ⟨v, hv, hvdivisor, hvroute⟩ := a.loadRoute_events o (x.route o)
      obtain ⟨w, hw, hdivisor, hroute⟩ := ih (a.loadRoute o (x.route o))
      refine ⟨v ++ w, ?_, fun u y he => (List.mem_append.1 he).elim (hvdivisor u y) (hdivisor u y), fun p y => ?_⟩
      · rw [List.foldl_cons, if_neg hsame, hw, hv, List.append_assoc]
      · rw [List.mem_append, hvroute, hroute, List.mem_cons, or_and_right]
        refine or_congr_left ⟨?_, ?_⟩
        · rintro ⟨rfl, rfl⟩
          exact ⟨rfl, hsame, rfl⟩
        · rintro ⟨rfl, -, rfl⟩
          exact ⟨rfl, rfl⟩

/-- The whole of an event's end on the pins. -/
theorem State.finish_events (old x : State) (os : List OutputId) : ∃ w,
    (State.finish old os x).pins.wave = x.pins.wave ++ w ∧ (∀ u y, PinEvent.divisor u y ∉ w) ∧
    ∀ o y, PinEvent.route o y ∈ w ↔ old.route o ≠ x.route o ∧ y = routeWord (x.route o) := by
  obtain ⟨v, hv, hdivisor, hroute⟩ := State.loadRoutes_events old x
  obtain ⟨w, hw, hgates⟩ := (State.report_isGate (State.touched old x ++ os) (State.loadRoutes old x)).wave
  refine ⟨v ++ w, ?_, fun u y he => (List.mem_append.1 he).elim (hdivisor u y) fun he => hgates _ he, fun o y => ?_⟩
  · rw [State.finish, hw, hv, List.append_assoc]
  · rw [List.mem_append, hroute]
    exact or_iff_left fun he => hgates _ he

/-! ### Transfers (R21) -/

/-- Since `base`, each tuner has kept its record or gone IDLE without a transfer, or has started an acquisition with
its transfer alone and is watched. -/
structure State.Tuned (base s : State) : Prop where
  ifKHz : s.tp.ifKHz = base.tp.ifKHz
  wave : ∃ w, s.pins.wave = base.pins.wave ++ w ∧ (∀ e ∈ w, ∃ u y, e = PinEvent.divisor u y) ∧ ∀ u : TunerId,
    ((s.tp.tuners[u] = base.tp.tuners[u] ∨ s.tp.tuners[u] = .idle) ∧ ∀ y, PinEvent.divisor u y ∉ w) ∨
      ∃ c, s.tp.tuners[u] = base.startedOn c ∧ ¬s.Vacant u ∧ base.startTransfer u c ∈ w ∧
        ∀ y, .divisor u y ∈ w → .divisor u y = base.startTransfer u c

theorem State.Tuned.refl (s : State) : s.Tuned s :=
  ⟨rfl, [], by simp, nofun, fun _ => .inl ⟨.inl rfl, nofun⟩⟩

/-- Where tuners that are watched stand, and others stand or go IDLE, the transfers stand. -/
theorem State.Tuned.quiet (h : old.Tuned s) (hif : t.tp.ifKHz = s.tp.ifKHz) (hpins : t.pins = s.pins)
    (htuners : ∀ u : TunerId, t.tp.tuners[u] = s.tp.tuners[u] ∨ (t.tp.tuners[u] = .idle ∧ s.Vacant u))
    (hstays : ∀ u, ¬s.Vacant u → ¬t.Vacant u) : old.Tuned t := by
  obtain ⟨hifs, w, hw, hdivisors, hall⟩ := h
  refine ⟨hif.trans hifs, w, by rw [hpins, hw], hdivisors, fun u => ?_⟩
  obtain ⟨hkept, hno⟩ | ⟨c, hrecord, hon, hstarts, honly⟩ := hall u
  · refine .inl ⟨?_, hno⟩
    obtain heq | ⟨hidle, -⟩ := htuners u
    · rw [heq]
      exact hkept
    · exact .inr hidle
  · exact .inr ⟨c, ((htuners u).resolve_right fun hidle => hon hidle.2).trans hrecord, hstays u hon, hstarts, honly⟩

/-- Seats are never lost by a move. -/
theorem State.Move.manned_stays (h : State.Move need s t) (hu : ¬s.Vacant u) : ¬t.Vacant u := by
  simp only [State.Vacant, not_forall, not_not] at hu
  obtain ⟨o, sl, hon⟩ := hu
  exact fun hvacant => hvacant o sl (h.keeps hon).1

theorem State.acquire_wave (u : TunerId) (c : Nat) (s : State) :
    (s.acquire u c).pins.wave = s.pins.wave ++ [s.startTransfer u c] :=
  State.loadDivisor_wave (acquisition_divisor c s.tp.ifKHz)

theorem State.Move.tuned (h : State.Move need s t) (k : old.Tuned s) : old.Tuned t := by
  have hstays {w : TunerId} (hw : ¬s.Vacant w) : ¬t.Vacant w := h.manned_stays hw
  cases h with
  | wait o => exact k.quiet rfl rfl (fun _ => .inl rfl) fun _ => hstays
  | vacate h => exact k.quiet (by rw [h.rest]) (by rw [h.rest]) h.tuners fun _ => hstays
  | seat h =>
    cases h with
    | join o u e => exact k.quiet rfl rfl (fun _ => .inl rfl) fun _ => hstays
    | start o u e free needs vacant unmet =>
      obtain ⟨hif, w, hw, hdivisors, hall⟩ := k
      have hallots := (s.attach_allots o (.tuner u e.slot)).trans (State.acquire_allots u e.carrier _)
      have hsent : ((s.attach o (.tuner u e.slot)).acquire u e.carrier).pins.wave =
          old.pins.wave ++ (w ++ [old.startTransfer u e.carrier]) := by
        rw [State.acquire_wave, ← List.append_assoc, ← hw]
        simp only [State.startTransfer, (s.attach_allots o (.tuner u e.slot)).rewires.frame, hif]
        rfl
      have hrecord : s.startedOn e.carrier = old.startedOn e.carrier := by
        simp only [State.startedOn, hif]
      refine ⟨?_, _, hsent, fun x hx => ?_, fun v => ?_⟩
      · rw [hallots.rest]
        exact hif
      · obtain hx | hx := List.mem_append.1 hx
        · exact hdivisors x hx
        · exact ⟨u, _, List.mem_singleton.1 hx⟩
      · rw [State.start_tuner]
        split_ifs with hvu
        · subst hvu
          obtain ⟨-, hno⟩ | ⟨_, -, hon, -⟩ := hall v
          · refine .inr ⟨e.carrier, hrecord, fun hvacant => ?_, List.mem_append_right _ (List.mem_singleton_self _),
              fun y hy => ?_⟩
            · refine hvacant o e.slot ?_
              rw [State.start_att, if_pos rfl]
            · obtain hy | hy := List.mem_append.1 hy
              · exact absurd hy (hno y)
              · exact List.mem_singleton.1 hy
          · exact absurd vacant hon
        · have hother (y : BitVec 15) : PinEvent.divisor v y ∈ w ++ [old.startTransfer u e.carrier] ↔
              PinEvent.divisor v y ∈ w := by
            rw [List.mem_append, List.mem_singleton]
            refine or_iff_left fun heq => hvu ?_
            exact (PinEvent.divisor.inj heq).1
          obtain ⟨hkept, hno⟩ | ⟨c, hstarted, hon, hstarts, honly⟩ := hall v
          · exact .inl ⟨hkept, fun y hy => hno y ((hother y).1 hy)⟩
          · exact .inr ⟨c, hstarted, hstays hon, List.mem_append_left _ hstarts, fun y hy => honly y ((hother y).1 hy)⟩

theorem State.Moves.tuned (h : State.Moves need s t) (k : old.Tuned s) : old.Tuned t := by
  induction h with
  | refl => exact k
  | tail _ hmove ih => exact hmove.tuned ih

/-- What a run of moves has transferred, seen at the end of its event. -/
theorem State.Tuned.follows (h : old.Tuned x) (os : List OutputId) : old.TransfersFollow (State.finish old os x) := by
  obtain ⟨-, w, hw, -, hall⟩ := h
  obtain ⟨v, hv, hdivisor, -⟩ := State.finish_events old x os
  have hwave : (State.finish old os x).pins.wave = old.pins.wave ++ (w ++ v) := by rw [hv, hw, List.append_assoc]
  have hdrives (u : TunerId) (y : BitVec 15) :
      old.Drives (State.finish old os x) (.divisor u y) ↔ PinEvent.divisor u y ∈ w := by
    rw [State.drives_iff hwave, List.mem_append]
    exact or_iff_left (hdivisor u y)
  have htp : (State.finish old os x).tp = x.tp := by simp
  intro u
  rw [htp]
  simp only [hdrives, State.startTransfer]
  obtain ⟨hkept, hno⟩ | ⟨c, hrecord, -, hstarts, honly⟩ := hall u
  · exact .inl ⟨hkept, hno⟩
  · exact .inr ⟨c, hrecord, hstarts, honly⟩

theorem State.Tuned.routesFollow (h : old.Tuned x) (os : List OutputId) : old.RoutesFollow (State.finish old os x) := by
  obtain ⟨-, w, hw, hdivisors, -⟩ := h
  obtain ⟨v, hv, -, hroute⟩ := State.finish_events old x os
  have hwave : (State.finish old os x).pins.wave = old.pins.wave ++ (w ++ v) := by rw [hv, hw, List.append_assoc]
  have hdrives (o : OutputId) (y : BitVec 4) :
      old.Drives (State.finish old os x) (.route o y) ↔ old.route o ≠ x.route o ∧ y = routeWord (x.route o) := by
    rw [State.drives_iff hwave, List.mem_append, hroute]
    refine or_iff_right fun he => ?_
    obtain ⟨_, _, heq⟩ := hdivisors _ he
    cases heq
  have hroutes (o : OutputId) : (State.finish old os x).route o = x.route o := by
    have hou : (State.finish old os x).ou = x.ou := by simp
    simp only [State.route, hou]
  intro o
  rw [hroutes]
  refine ⟨fun hne => (hdrives o _).2 ⟨fun heq => hne heq.symm, ?_⟩, fun heq y hy => ((hdrives o y).1 hy).1 heq.symm⟩
  cases x.route o <;> rfl

end

end Sys2Proof.Machine

/-! PROOF. The pool's law by the moves of the arbiter, and what an event that retunes leaves. -/

namespace Sys2Proof.Machine

section

variable {s t x old : State} {o p : OutputId} {u w : TunerId} {need : OutputId → Option MapEntry} {e : MapEntry}

/-! ### The close of an event that retunes -/

/-- Passes as a change of channels leaves them (R138). -/
theorem State.Clears.passes (h : s.Clears t) : t.pc.passes = s.passesKept t := by
  refine Vector.ext fun i hi => ?_
  rw [State.passesKept, Vector.getElem_ofFn]
  obtain ⟨hch, hpass⟩ | ⟨hsome, hnone, hpass⟩ := h.pass ⟨i, hi⟩
  · rw [if_pos hch]
    exact hpass
  · rw [if_neg (by rw [hnone]; exact hsome.symm)]
    exact hpass

/-- What an event that retunes leaves beside the close. -/
theorem State.Rewires.retunes (h : old.Rewires x) (hpasses : x.pc.passes = old.passesKept x) (htuned : old.Tuned x)
    (os : List OutputId) : old.Retunes (State.finish old os x) := by
  have hfinish := State.finish_closes old os x
  have hou : (State.finish old os x).ou = x.ou := by simp
  have htp : (State.finish old os x).tp = x.tp := by simp
  have hkept : old.passesKept (State.finish old os x) = old.passesKept x := by simp only [State.passesKept, hou]
  obtain ⟨w, hw, -⟩ := h.pins
  have hrest := h.rest
  refine ⟨State.PinsOnly.closes (m := x) ⟨?_, w, by rw [hw]⟩ hfinish, htuned.routesFollow os, htuned.follows os⟩
  rw [hou, htp, hkept, ← hpasses]
  exact hrest

/-- The reply besides (R191). -/
theorem State.Retunes.answered {r : Request} {rest : List Request} {st : Status} {body : List Byte}
    (h : (s.unqueued rest).Retunes t) :
    (s.answered r rest st body).Retunes (t.pushReply ⟨r.kind ||| 0x80, r.tag, st, body⟩) :=
  ⟨State.Closes.pushReply _ h.1, h.2⟩

theorem State.StoreRests.answered {r : Request} {rest : List Request} {st : Status} {body : List Byte}
    (hss : x.ss = s.ss) (h : x.StoreRests t) :
    (s.answered r rest st body).StoreRests (t.pushReply ⟨r.kind ||| 0x80, r.tag, st, body⟩) := by
  rw [State.StoreRests, hss] at h
  exact h

/-! ### The pool's law (R18, R33, R36 to R38, R44) -/

/-- The entry an output needs a tuner for: its channel's, while it is ACTIVE (R44). -/
def State.wants (s : State) (o : OutputId) : Option MapEntry :=
  if s.ou[o].mode = .active then s.entryOf o else none

theorem State.wants_active (h : s.ou[o].mode = .active) : s.wants o = s.entryOf o := if_pos h

theorem State.wants_standby (h : s.ou[o].mode = .standby) : s.wants o = none := if_neg (by rw [h]; decide)

/-- The pool's law as the moves keep it. -/
structure State.Sound (s : State) : Prop where
  seated : s.Seated s.wants
  manned : s.Manned
  served : s.Served s.wants
  settled : ∀ o, s.wants o ≠ none → s.ou[o].attachment ≠ .none
  resolved : ∀ o : OutputId, s.ou[o].mode = .active → s.ou[o].channel ≠ none → s.entryOf o ≠ none
  modes : ∀ o p : OutputId, s.ou[o].mode = s.ou[p].mode
  loading : s.phase = .loading → ∀ o : OutputId, s.ou[o].mode = .standby

/-- R44 on one output, by what the output wants. -/
theorem State.attachmentLawful_iff : s.attachmentLawful o = true ↔
    (s.wants o = none → s.ou[o].attachment = .none) ∧
    (s.ou[o].mode = .active → s.ou[o].channel ≠ none → s.entryOf o ≠ none) ∧
    ∀ e, s.wants o = some e → s.ou[o].attachment = .waiting ∨
      ∃ u, s.ou[o].attachment = .tuner u e.slot ∧ s.tp.tuners[u].carrier = some e.carrier := by
  unfold State.attachmentLawful State.wants State.entryOf
  cases s.ou[o].mode with
  | standby => simp
  | active =>
    cases s.ou[o].channel with
    | none => simp
    | some ch =>
      simp only [if_true]
      cases s.cm.committed.resolve ch with
      | none => simp
      | some e =>
        cases s.ou[o].attachment with
        | none => simp
        | waiting => simp
        | tuner u sl =>
          simp only [Bool.and_eq_true, beq_iff_eq, Attachment.tuner.injEq]
          refine ⟨fun ⟨hcarrier, hslot⟩ => ⟨nofun, fun _ _ => nofun, fun x hx => .inr ⟨u, ?_⟩⟩, fun ⟨_, _, h⟩ => ?_⟩
          · obtain rfl := Option.some.inj hx
            exact ⟨⟨rfl, hslot⟩, hcarrier⟩
          · obtain hno | ⟨v, ⟨rfl, rfl⟩, hcarrier⟩ := h e rfl
            · cases hno
            · exact ⟨hcarrier, rfl⟩

theorem State.poolLaw_iff : s.PoolLaw ↔ s.Sound := by
  constructor
  · rintro ⟨hmanned, hidle, hbusy, hapart, hmodes, hlawful, hwaits, hloading⟩
    have hseats (o : OutputId) := State.attachmentLawful_iff.1 (hlawful o)
    have hwants {o : OutputId} (hatt : s.ou[o].attachment ≠ .none) : ∃ e, s.wants o = some e :=
      Option.ne_none_iff_exists'.1 fun hnone => hatt ((hseats o).1 hnone)
    have hentry {o : OutputId} {e : MapEntry} (he : s.wants o = some e) : s.entryOf o = some e := by
      unfold State.wants at he
      split_ifs at he
      exact he
    refine ⟨⟨hidle, hbusy, hapart, fun o u sl ho => ?_, fun o ho => ?_⟩, fun u hu hvacant => ?_, fun o ho e he u => ?_,
      fun o hwant hnone => ?_, fun o => (hseats o).2.1, hmodes, hloading⟩
    · obtain ⟨e, he⟩ := hwants (o := o) (by rw [ho]; nofun)
      obtain hno | ⟨v, hv, hcarrier⟩ := (hseats o).2.2 e he
      · rw [ho] at hno
        cases hno
      · obtain ⟨rfl, rfl⟩ := Attachment.tuner.inj (ho.symm.trans hv)
        refine ⟨fun hno => ?_, e, he, rfl, hcarrier⟩
        rw [hidle u hno] at hcarrier
        cases hcarrier
    · obtain ⟨e, he⟩ := hwants (o := o) (by rw [ho]; nofun)
      exact ⟨e, he, hentry he⟩
    · exact hu ((hmanned u).2 (State.attachedTo_eq_nil.2 hvacant))
    · obtain ⟨hstate, hcarrier⟩ := hwaits o ho u
      rw [State.needs, hentry he] at hcarrier
      exact ⟨hstate, hcarrier⟩
    · obtain ⟨e, he⟩ := Option.ne_none_iff_exists'.1 hwant
      obtain hw | ⟨v, hv, -⟩ := (hseats o).2.2 e he
      · rw [hnone] at hw
        cases hw
      · rw [hnone] at hv
        cases hv
  · rintro ⟨hseated, hmanned, hserved, hsettled, hresolved, hmodes, hloading⟩
    refine ⟨fun u => ⟨fun hu => State.attachedTo_eq_nil.2 (hseated.vacant hu), fun hnil => ?_⟩, hseated.idle, hseated.busy,
      hseated.apart, hmodes, fun o => State.attachmentLawful_iff.2 ⟨fun hnone => ?_, hresolved o, fun e he => ?_⟩,
      fun o ho u => ?_, hloading⟩
    · by_contra hu
      exact hmanned u hu (State.attachedTo_eq_nil.1 hnil)
    · cases hatt : s.ou[o].attachment with
      | none => rfl
      | waiting =>
        obtain ⟨e, he, -⟩ := hseated.waits o hatt
        cases hnone.symm.trans he
      | tuner u sl =>
        obtain ⟨-, e, he, -⟩ := hseated.seats o u sl hatt
        cases hnone.symm.trans he
    · cases hatt : s.ou[o].attachment with
      | none => exact absurd hatt (hsettled o (by rw [he]; nofun))
      | waiting => exact .inl rfl
      | tuner u sl =>
        obtain ⟨-, x, hx, rfl, hcarrier⟩ := hseated.seats o u sl hatt
        obtain rfl : e = x := Option.some.inj (he.symm.trans hx)
        exact .inr ⟨u, rfl, hcarrier⟩
    · obtain ⟨e, he, hentry⟩ := hseated.waits o ho
      obtain ⟨hstate, hcarrier⟩ := hserved o ho e he u
      rw [State.needs, hentry]
      exact ⟨hstate, hcarrier⟩

/-- The pool's law speaks of outputs, tuners, committed map and phase. -/
theorem State.PoolLaw.congr (h : s.PoolLaw) (hou : t.ou = s.ou) (htp : t.tp = s.tp)
    (hcm : t.cm.committed = s.cm.committed) (hphase : t.phase = .loading → s.phase = .loading) : t.PoolLaw := by
  obtain ⟨hmanned, hidle, hbusy, hapart, hmodes, hlawful, hwaits, hloading⟩ := h
  simp only [State.PoolLaw, State.attachedTo, State.attachmentLawful, State.needs, State.entryOf, hou, htp, hcm]
  exact ⟨hmanned, hidle, hbusy, hapart, hmodes, hlawful, hwaits, fun h => hloading (hphase h)⟩

/-- Where the outputs' wants are `need`, the pool's law. -/
theorem State.Seated.poolLaw (seated : s.Seated need) (manned : s.Manned) (served : s.Served need)
    (wants : ∀ o, s.wants o = need o) (settled : ∀ o, need o ≠ none → s.ou[o].attachment ≠ .none)
    (resolved : ∀ o : OutputId, s.ou[o].mode = .active → s.ou[o].channel ≠ none → need o ≠ none)
    (modes : ∀ o p : OutputId, s.ou[o].mode = s.ou[p].mode) (running : s.phase = .running) : s.PoolLaw := by
  obtain rfl : s.wants = need := funext wants
  refine State.poolLaw_iff.2 ⟨seated, manned, served, settled, fun o hactive hch => ?_, modes, fun hload => ?_⟩
  · rw [← State.wants_active hactive]
    exact resolved o hactive hch
  · cases running.symm.trans hload

/-- An output that needs no tuner has none. -/
theorem State.Seated.att_none (k : s.Seated need) (h : need o = none) : s.ou[o].attachment = .none := by
  cases hatt : s.ou[o].attachment with
  | none => rfl
  | waiting =>
    obtain ⟨e, he, -⟩ := k.waits o hatt
    cases h.symm.trans he
  | tuner u sl =>
    obtain ⟨-, e, he, -⟩ := k.seats o u sl hatt
    cases h.symm.trans he

/-! ### Outputs that neither wait nor are served -/

/-- Every output other than `o` that does not wait stands. -/
def State.Stays (o : OutputId) (s t : State) : Prop :=
  ∀ p : OutputId, p ≠ o → s.ou[p].attachment ≠ .waiting → t.ou[p] = s.ou[p]

theorem State.Stays.refl (o : OutputId) (s : State) : State.Stays o s s := fun _ _ _ => rfl

theorem State.Stays.of_ou (h : t.ou = s.ou) : State.Stays o s t := fun _ _ _ => by rw [h]

theorem State.Stays.trans (h : State.Stays o s t) (k : State.Stays o t x) : State.Stays o s x := by
  intro p hp hw
  have hst := h p hp hw
  rw [← hst] at hw
  exact (k p hp hw).trans hst

theorem State.Stays.foldl {α : Type} {f : State → α → State} (h : ∀ (s : State) (a : α), State.Stays o s (f s a))
    (l : List α) (s : State) : State.Stays o s (l.foldl f s) :=
  foldl_related (Stays.refl o) Stays.trans h l s

theorem State.attach_stays (o : OutputId) (a : Attachment) (s : State) : State.Stays o s (s.attach o a) :=
  fun _ hp _ => State.attach_other hp a s

/-- A waiting output that is attached is one of those the others may not be. -/
theorem State.attach_waiting_stays (h : s.ou[p].attachment = .waiting) (a : Attachment) :
    State.Stays o s (s.attach p a) := by
  intro q _ hw
  exact State.attach_other (by rintro rfl; exact hw h) a s

theorem State.acquire_stays (u : TunerId) (c : Nat) (s : State) : State.Stays o s (s.acquire u c) :=
  .of_ou (s.acquire_ou u c)

theorem State.attachWaiters_stays (u : TunerId) (c : Nat) (s : State) : State.Stays o s (s.attachWaiters u c) := by
  refine .foldl (fun a p => ?_) _ s
  split_ifs with hw
  · split
    · split_ifs
      · exact State.attach_waiting_stays hw _
      · exact .refl o a
    · exact .refl o a
  · exact .refl o a

theorem State.place_stays (o : OutputId) (c : Nat) (sl : ServiceSlot) (ch : Choice) (s : State) :
    State.Stays o s (s.place o c sl ch) := by
  have start (u : TunerId) : State.Stays o s (((s.attach o (.tuner u sl)).acquire u c).attachWaiters u c) :=
    ((s.attach_stays o _).trans (State.acquire_stays u c _)).trans (State.attachWaiters_stays u c _)
  cases ch with
  | attach u => exact s.attach_stays o _
  | retune u => exact start u
  | start u => exact start u
  | none => exact .refl o s

theorem State.serveWaiting_stays (o : OutputId) (s : State) : State.Stays o s s.serveWaiting := by
  refine .foldl (fun a p => ?_) _ s
  split_ifs with hw
  · split
    · intro q _ hq
      exact State.place_stays p _ _ _ a q (by rintro rfl; exact hq hw) hq
    · exact .refl o a
  · exact .refl o a

theorem State.release_stays (o : OutputId) (s : State) : State.Stays o s s.release := by
  unfold State.release
  split_ifs
  · exact (State.Stays.of_ou (by rw [s.idleEmptied_rest])).trans (State.serveWaiting_stays o _)
  · exact .refl o s

theorem State.allocate_stays {c : Nat} {sl : ServiceSlot} (h : s.allocate o c sl = some t) : State.Stays o s t := by
  unfold State.allocate at h
  split at h
  · cases h
  · cases h
    exact (s.place_stays o c sl _).trans (State.release_stays o _)

theorem State.allocateOrWait_stays (o : OutputId) (e : MapEntry) (s : State) :
    State.Stays o s (s.allocateOrWait o e) := by
  unfold State.allocateOrWait
  split
  · exact State.allocate_stays ‹_›
  · exact s.attach_stays o _

end

end Sys2Proof.Machine

/-! PROOF. STANDBY releases every tuner and darkens every room: O34. -/

namespace Sys2Proof.Machine

/-! ### Folds that touch one place at a time -/

/-- What a fold leaves at one place, where each step touches its own place alone. -/
theorem foldl_pointwise {ι β γ : Type} [DecidableEq ι] {get : β → ι → γ} {f : β → ι → β} {g : γ → γ}
    (same : ∀ s i, get (f s i) i = g (get s i)) (other : ∀ s {i j}, j ≠ i → get (f s i) j = get s j) {l : List ι}
    (nodup : l.Nodup) (i : ι) (s : β) : get (l.foldl f s) i = if i ∈ l then g (get s i) else get s i := by
  induction l generalizing s with
  | nil => rfl
  | cons j l ih =>
    obtain ⟨hno, hnodup⟩ := List.nodup_cons.1 nodup
    rw [List.foldl_cons, ih hnodup]
    by_cases hij : i = j
    · subst hij
      rw [if_neg hno, if_pos (List.mem_cons_self ..), same]
    · rw [other s hij]
      simp only [List.mem_cons, hij, false_or]

theorem allOutputs_nodup : allOutputs.Nodup := by decide

theorem allTuners_nodup : allTuners.Nodup := by decide

section

variable {s t : State} {o : OutputId}

theorem State.setModes_ou (m : Mode) (o : OutputId) (s : State) : (s.setModes m).ou[o] = { s.ou[o] with mode := m } := by
  have h := foldl_pointwise (get := fun (s : State) (o : OutputId) => s.ou[o])
    (f := fun acc o => acc.setOutput o { acc.ou[o] with mode := m }) (g := fun x => { x with mode := m })
    (fun s o => s.setOutput_same o _) (fun s o p h => State.setOutput_other h _ s) allOutputs_nodup o s
  rwa [if_pos (State.mem_allOutputs o)] at h

theorem State.setModes_rest (m : Mode) (s : State) : s.setModes m = { s with ou := (s.setModes m).ou } :=
  foldl_related (R := fun a b : State => b = { a with ou := b.ou }) (fun _ => rfl) (fun h k => by rw [h] at k; exact k)
    (fun _ _ => rfl) allOutputs s

theorem State.foldl_attach_ou (a : Attachment) {l : List OutputId} (nodup : l.Nodup) (o : OutputId) (s : State) :
    (l.foldl (fun acc o => acc.attach o a) s).ou[o] = if o ∈ l then { s.ou[o] with attachment := a } else s.ou[o] :=
  foldl_pointwise (get := fun (s : State) (o : OutputId) => s.ou[o]) (f := fun acc o => acc.attach o a)
    (g := fun x => { x with attachment := a }) (fun s o => s.attach_same o a)
    (fun s _ _ h => State.attach_other h a s) nodup o s

theorem State.foldl_attach_rest (a : Attachment) (l : List OutputId) (s : State) :
    l.foldl (fun acc o => acc.attach o a) s = { s with ou := (l.foldl (fun acc o => acc.attach o a) s).ou } :=
  foldl_related (R := fun a b : State => b = { a with ou := b.ou }) (fun _ => rfl) (fun h k => by rw [h] at k; exact k)
    (fun _ _ => rfl) l s

theorem State.foldl_setTuner (x : Tuner) (u : TunerId) (s : State) :
    (allTuners.foldl (fun acc u => acc.setTuner u x) s).tp.tuners[u] = x := by
  have h := foldl_pointwise (get := fun (s : State) (u : TunerId) => s.tp.tuners[u]) (f := fun acc u => acc.setTuner u x)
    (g := fun _ => x) (fun s u => s.setTuner_same u x) (fun s _ _ h => State.setTuner_other h x s) allTuners_nodup u s
  rwa [if_pos (mem_allTuners u)] at h

theorem State.foldl_setTuner_rest (x : Tuner) (s : State) : allTuners.foldl (fun acc u => acc.setTuner u x) s =
    { s with tp := { s.tp with tuners := (allTuners.foldl (fun acc u => acc.setTuner u x) s).tp.tuners } } :=
  foldl_related (R := fun a b : State => b = { a with tp := { a.tp with tuners := b.tp.tuners } }) (fun _ => rfl)
    (fun h k => by rw [h] at k; exact k) (fun _ _ => rfl) allTuners s

/-! ### Release all (R35) -/

theorem State.releaseAll_ou (o : OutputId) (s : State) : s.releaseAll.ou[o] = { s.ou[o] with attachment := .none } := by
  have hou : s.releaseAll.ou = (allOutputs.foldl (fun acc o => acc.attach o .none) s).ou := by
    unfold State.releaseAll
    rw [State.foldl_setTuner_rest]
  have h := State.foldl_attach_ou .none allOutputs_nodup o s
  rw [if_pos (State.mem_allOutputs o)] at h
  rw [hou]
  exact h

theorem State.releaseAll_tuner (u : TunerId) (s : State) : s.releaseAll.tp.tuners[u] = .idle :=
  State.foldl_setTuner .idle u _

theorem State.releaseAll_pins (s : State) : s.releaseAll.pins = s.pins := by
  unfold State.releaseAll
  rw [State.foldl_setTuner_rest, State.foldl_attach_rest]

/-! ### The sleep (R47) -/

theorem State.sleepAll_ou (o : OutputId) (s : State) :
    s.sleepAll.ou[o] = { mode := .standby, channel := s.ou[o].channel, attachment := .none } := by
  have h : s.sleepAll.ou[o] = (s.setModes .standby).releaseAll.ou[o] := rfl
  rw [h, State.releaseAll_ou, State.setModes_ou]

theorem State.sleepAll_tuner (u : TunerId) (s : State) : s.sleepAll.tp.tuners[u] = .idle :=
  State.releaseAll_tuner u _

theorem State.sleepAll_pass (o : OutputId) (s : State) : s.sleepAll.pc.passes[o] = none := Vector.getElem_replicate _

theorem State.sleepAll_tuned (s : State) : s.Tuned s.sleepAll := by
  have hpins : s.sleepAll.pins = s.pins := by
    have h : s.sleepAll.pins = (s.setModes .standby).releaseAll.pins := rfl
    rw [h, State.releaseAll_pins, State.setModes_rest]
  obtain ⟨-, -, -, -, -, hif, -⟩ := s.sleepAll_rewires.frame
  exact ⟨hif, [], by rw [hpins, List.append_nil], nofun, fun u => .inl ⟨.inr (s.sleepAll_tuner u), nofun⟩⟩

/-- The close of an event compares outputs and tuners. -/
theorem State.finish_congr {old old' : State} (hou : old'.ou = old.ou) (htp : old'.tp = old.tp) (os : List OutputId)
    (x : State) : State.finish old' os x = State.finish old os x := by
  have hroutes : State.loadRoutes old' x = State.loadRoutes old x := by
    simp only [State.loadRoutes, State.route, hou]
    rfl
  have htouched : State.touched old' x = State.touched old x := by
    simp only [State.touched, hou, htp]
  rw [State.finish, State.finish, hroutes, htouched]

/-- STANDBY as an event that retunes, all passes ended. -/
theorem State.sleepAll_retunes (s : State) : s.endPasses.Retunes (State.finish s allOutputs s.sleepAll) := by
  have hrewires : s.endPasses.Rewires s.sleepAll := ⟨s.sleepAll_rewires.rest, s.sleepAll_rewires.pins⟩
  have htuned : s.endPasses.Tuned s.sleepAll := ⟨s.sleepAll_tuned.ifKHz, s.sleepAll_tuned.wave⟩
  have hpasses : s.sleepAll.pc.passes = s.endPasses.passesKept s.sleepAll := by
    refine Vector.ext fun i hi => ?_
    have hnone : s.endPasses.pc.passes[(⟨i, hi⟩ : OutputId)] = none := Vector.getElem_replicate _
    rw [State.passesKept, Vector.getElem_ofFn, hnone, ite_self]
    exact s.sleepAll_pass ⟨i, hi⟩
  have h := hrewires.retunes hpasses htuned allOutputs
  rwa [State.finish_congr (old := s) (old' := s.endPasses) rfl rfl] at h

end

/-- Settles O34: every tuner released, and each room decided as standby has it (R149). -/
theorem standbyDarkensEveryRoom : Obligations.StandbyDarkensEveryRoom := by
  intro s r rest h hk hb
  have hread : readNone r.body = some () := by rw [hb]; rfl
  refine ⟨fun hstandby => ?_, fun ⟨o, hactive⟩ => ?_⟩
  · have hasleep : (s.unqueued rest).awake = false := State.awake_eq_false hstandby
    exact h.answers rfl hk hread (by rw [hasleep]; rfl)
  · have hawake : (s.unqueued rest).awake = true := (s.unqueued rest).awake_iff.2 ⟨o, hactive⟩
    have hserved := h.served (c := .standby) (st := .ok) (body := [])
      (x := State.finish (s.unqueued rest) allOutputs (s.unqueued rest).sleepAll) rfl hk hread (by
        simp only [hawake, if_true]
        rfl)
    have hdecided (p : OutputId) : (State.finish (s.unqueued rest) allOutputs (s.unqueued rest).sleepAll).Decided p :=
      State.report_decides _ _ p (.inl (List.mem_append_right _ (State.mem_allOutputs p)))
    have hpasses := (State.finish_closes (s.unqueued rest) allOutputs (s.unqueued rest).sleepAll).2.1
    have htp : (State.finish (s.unqueued rest) allOutputs (s.unqueued rest).sleepAll).tp =
      (s.unqueued rest).sleepAll.tp := by simp
    have hou : (State.finish (s.unqueued rest) allOutputs (s.unqueued rest).sleepAll).ou =
      (s.unqueued rest).sleepAll.ou := by simp
    have hretunes := (s.unqueued rest).sleepAll_retunes
    have hrests := State.finish_storeRests (s.unqueued rest) allOutputs (s.unqueued rest).sleepAll
    generalize State.finish (s.unqueued rest) allOutputs (s.unqueued rest).sleepAll = t at *
    refine ⟨_, hserved, ?_, ?_, fun u => ?_, fun p => ?_⟩
    · exact State.Retunes.answered (s := s.endPasses) hretunes
    · exact State.StoreRests.answered (by rw [(s.unqueued rest).sleepAll_rewires.rest]; rfl) hrests
    · exact (congrArg (fun tp : TunerPool => tp.tuners[u]) htp).trans (State.sleepAll_tuner u _)
    · obtain ⟨hrecord, hpicture, hdescramble⟩ := hdecided p
      have hp := (congrArg (fun ou : Vector Output 4 => ou[p]) hou).trans (State.sleepAll_ou p _)
      have hae := hrecord.trans (State.decisionRecord_standby (by rw [hp]))
      rw [State.route, hp] at hae
      refine ⟨hp, ?_, hae, hpicture.trans (by rw [hae]), hdescramble.trans (by rw [hae])⟩
      obtain hkept | ⟨hnone, -⟩ := hpasses p
      · exact hkept.trans (State.sleepAll_pass p _)
      · exact hnone

end Sys2Proof.Machine

/-! PROOF. WAKE serves every room: O33. -/

namespace Sys2Proof.Machine

section

variable {s x t : State} {o p : OutputId} {u : TunerId} {need : OutputId → Option MapEntry} {e : MapEntry}

/-! ### States that agree in attachments and tuners -/

/-- The states agree in the pool, the attachments and the pins. -/
structure State.SamePool (s t : State) : Prop where
  tp : t.tp = s.tp
  att : ∀ o : OutputId, t.ou[o].attachment = s.ou[o].attachment
  pins : t.pins = s.pins

theorem State.SamePool.vacant_iff (h : s.SamePool t) : t.Vacant u ↔ s.Vacant u := by
  simp only [State.Vacant, h.att]

theorem State.SamePool.manned (h : s.SamePool t) (k : s.Manned) : t.Manned := by
  intro u hu
  rw [h.tp] at hu
  rw [h.vacant_iff]
  exact k u hu

theorem State.SamePool.served (h : s.SamePool t) (k : s.Served need) : t.Served need := by
  intro o ho
  rw [h.att] at ho
  rw [h.tp]
  exact k o ho

theorem State.SamePool.seated (h : s.SamePool t) (k : s.Seated need)
    (entry : ∀ o : OutputId, s.ou[o].attachment = .waiting → t.entryOf o = s.entryOf o) : t.Seated need := by
  have htp := h.tp
  refine ⟨fun u => ?_, fun u => ?_, fun u w => ?_, fun o u sl ho => ?_, fun o ho => ?_⟩
  · rw [htp]
    exact k.idle u
  · rw [htp]
    exact k.busy u
  · rw [htp]
    exact k.apart u w
  · rw [h.att] at ho
    rw [htp]
    exact k.seats o u sl ho
  · rw [h.att] at ho
    rw [entry o ho]
    exact k.waits o ho

theorem State.SamePool.tuned (h : s.SamePool t) (k : x.Tuned s) : x.Tuned t :=
  k.quiet (by rw [h.tp]) h.pins (fun u => .inl (by rw [h.tp])) fun _ => (not_congr h.vacant_iff).2

theorem State.setChannel_samePool (o : OutputId) (ch : Option Nat) (s : State) : s.SamePool (s.setChannel o ch) := by
  refine ⟨rfl, fun p => ?_, rfl⟩
  by_cases hp : p = o
  · subst hp
    rw [(s.setChannel_same p ch).1]
  · rw [(s.setChannel_other hp ch).1]

theorem State.SamePool.refl (s : State) : s.SamePool s := ⟨rfl, fun _ => rfl, rfl⟩

/-! ### One output after another (R46) -/

/-- A pool in which all tuners at work are watched, by outputs below `o` alone, has a tuner for `o` unless three
outputs stand below it. -/
theorem State.Manned.three_le (manned : s.Manned) (busy : ∀ u : TunerId, s.tp.tuners[u].state ≠ .idle)
    (later : ∀ p : OutputId, o ≤ p → s.ou[p].attachment = .none) : 3 ≤ o.val := by
  have hwatched (u : TunerId) : ∃ p : OutputId, p < o ∧ s.ou[p].attachment.tuner? = some u := by
    obtain ⟨p, hp⟩ := not_forall.1 (manned u (busy u))
    obtain ⟨sl, hsl⟩ := not_forall_not.1 hp
    refine ⟨p, not_le.1 fun hle => ?_, by rw [hsl]; rfl⟩
    rw [later p hle] at hsl
    cases hsl
  choose f hbelow hf using hwatched
  have hinjective : Function.Injective fun u : TunerId => (⟨(f u).val, hbelow u⟩ : Fin o.val) := by
    intro u w huw
    have hsame : f u = f w := Fin.ext (congrArg (fun i : Fin o.val => i.val) huw)
    have hu := hf u
    rw [hsame, hf w] at hu
    exact (Option.some.inj hu).symm
  simpa using Fintype.card_le_of_injective _ hinjective

/-- The outputs below the `n`-th have woken, the others have yet to (R46). -/
structure State.Waking (s : State) (n : Nat) (x : State) : Prop where
  seated : x.Seated s.entryOf
  manned : x.Manned
  served : x.Served s.entryOf
  tuned : s.Tuned x
  cm : x.cm = s.cm
  active : ∀ o : OutputId, x.ou[o].mode = .active
  later : ∀ o : OutputId, n ≤ o.val → x.ou[o].attachment = .none ∧ x.ou[o].channel = s.ou[o].channel
  gone : ∀ o : OutputId, o.val < n → s.entryOf o = none → x.ou[o].channel = none
  woken : ∀ o : OutputId, o.val < n → ∀ e, s.entryOf o = some e → x.ou[o].channel = s.ou[o].channel ∧
    ((o = 3 ∧ x.ou[o].attachment = .waiting) ∨ ∃ u, x.ou[o].attachment = .tuner u e.slot)

theorem State.Waking.zero (hasleep : ∀ o : OutputId, s.ou[o].mode = .standby ∧ s.ou[o].attachment = .none)
    (hidle : ∀ u : TunerId, s.tp.tuners[u] = .idle) : s.Waking 0 (s.setModes .active) := by
  have hrest := s.setModes_rest .active
  have htp : (s.setModes .active).tp = s.tp := by rw [hrest]
  have hpins : (s.setModes .active).pins = s.pins := by rw [hrest]
  have hnone (o : OutputId) : (s.setModes .active).ou[o].attachment = .none := by
    rw [State.setModes_ou]
    exact (hasleep o).2
  have hidle' (u : TunerId) : (s.setModes .active).tp.tuners[u] = .idle := by
    rw [htp]
    exact hidle u
  have hno {u : TunerId} : (s.setModes .active).tp.tuners[u].state = .idle := by rw [hidle']; rfl
  refine ⟨⟨fun u _ => hidle' u, fun u hu => absurd hno hu, fun u _ _ hu => absurd hno hu, fun o u sl ho => ?_,
    fun o ho => ?_⟩, fun u hu => absurd hno hu, fun o ho => ?_, ?_, by rw [hrest], fun o => ?_, fun o _ => ⟨hnone o, ?_⟩,
    nofun, nofun⟩
  · cases (hnone o).symm.trans ho
  · cases (hnone o).symm.trans ho
  · cases (hnone o).symm.trans ho
  · exact (State.Tuned.refl s).quiet (by rw [htp]) hpins (fun u => .inl (by rw [htp]))
      fun u hu => absurd (fun o sl ho => by rw [(hasleep o).2] at ho; cases ho) hu
  · rw [State.setModes_ou]
  · rw [State.setModes_ou]

/-- An output without a channel of the map stays without a tuner. -/
theorem State.Waking.forget (h : s.Waking o.val x) (hno : s.entryOf o = none) (hsame : x.SamePool t) (hcm : t.cm = x.cm)
    (hother : ∀ p, p ≠ o → t.ou[p] = x.ou[p]) (hou : t.ou[o] = { x.ou[o] with channel := none }) :
    s.Waking (o.val + 1) t := by
  have hearlier {p : OutputId} (hp : p.val < o.val + 1) (hne : p ≠ o) : p.val < o.val :=
    lt_of_le_of_ne (Nat.lt_succ_iff.1 hp) fun heq => hne (Fin.ext heq)
  refine ⟨hsame.seated h.seated fun p hp => ?_, hsame.manned h.manned, hsame.served h.served, hsame.tuned h.tuned,
    hcm.trans h.cm, fun p => ?_, fun p hp => ?_, fun p hp hp' => ?_, fun p hp e he => ?_⟩
  · have hne : p ≠ o := by
      rintro rfl
      rw [(h.later p le_rfl).1] at hp
      cases hp
    exact State.entryOf_congr (by rw [hother p hne]) hcm
  · by_cases hne : p = o
    · subst hne
      rw [hou]
      exact h.active p
    · rw [hother p hne]
      exact h.active p
  · rw [hother p (by rintro rfl; omega)]
    exact h.later p (by omega)
  · by_cases hne : p = o
    · subst hne
      rw [hou]
    · rw [hother p hne]
      exact h.gone p (hearlier hp hne) hp'
  · have hne : p ≠ o := by
      rintro rfl
      cases hno.symm.trans he
    rw [hother p hne]
    exact h.woken p (hearlier hp hne) e he

/-- An output with a channel of the map gets a tuner, or waits behind three others (R33, R46). -/
theorem State.Waking.allocate (h : s.Waking o.val x) (he : s.entryOf o = some e) :
    s.Waking (o.val + 1) (x.allocateOrWait o e) := by
  have hearlier {p : OutputId} (hp : p.val < o.val + 1) (hne : p ≠ o) : p.val < o.val :=
    lt_of_le_of_ne (Nat.lt_succ_iff.1 hp) fun heq => hne (Fin.ext heq)
  obtain ⟨hnone, hchannel⟩ := h.later o le_rfl
  obtain ⟨hmoves, hmanned, hserved, hplaced⟩ := State.allocateOrWait_free h.seated h.manned
    (fun u sl hno => by cases hnone.symm.trans hno) he ((State.entryOf_congr hchannel h.cm).trans he)
  have hallots := x.allocateOrWait_allots o e
  have hstays (p : OutputId) (hp : p ≠ o) (hw : x.ou[p].attachment ≠ .waiting) :
      (x.allocateOrWait o e).ou[p] = x.ou[p] := State.allocateOrWait_stays o e x p hp hw
  refine ⟨hmoves.seated h.seated, hmanned, hserved h.served, State.Moves.tuned hmoves h.tuned, ?_, fun p => ?_,
    fun p hp => ?_, fun p hp hp' => ?_, fun p hp e' he' => ?_⟩
  · rw [hallots.rest]
    exact h.cm
  · rw [(hallots.seats p).1]
    exact h.active p
  · have hlater := h.later p (by omega)
    rw [hstays p (by rintro rfl; omega) (by rw [hlater.1]; nofun)]
    exact hlater
  · rw [(hallots.seats p).2]
    refine h.gone p (hearlier hp ?_) hp'
    rintro rfl
    cases hp'.symm.trans he
  · rw [(hallots.seats p).2]
    by_cases hne : p = o
    · subst hne
      obtain rfl : e = e' := Option.some.inj (he.symm.trans he')
      refine ⟨hchannel, ?_⟩
      obtain hseat | ⟨hwaits, hbusy⟩ := hplaced
      · exact .inr hseat
      · have hthree := h.manned.three_le hbusy fun q hq => (h.later q hq).1
        exact .inl ⟨Fin.ext (by omega), hwaits⟩
    · obtain ⟨hch, hwaits | ⟨u, hseat⟩⟩ := h.woken p (hearlier hp hne) e' he'
      · obtain ⟨rfl, -⟩ := hwaits
        have := hearlier hp hne
        omega
      · rw [hstays p hne (by rw [hseat]; nofun)]
        exact ⟨hch, .inr ⟨u, hseat⟩⟩

/-- One more output wakes (R46). -/
theorem State.Waking.wakeOutput (h : s.Waking o.val x) : s.Waking (o.val + 1) (x.wakeOutput o) := by
  obtain ⟨hnone, hchannel⟩ := h.later o le_rfl
  have hentry : x.entryOf o = s.entryOf o := State.entryOf_congr hchannel h.cm
  cases hch : x.ou[o].channel with
  | none =>
    have hno : s.entryOf o = none := by rw [← hentry, State.entryOf, hch]
    have hstands : x.wakeOutput o = x := by rw [State.wakeOutput, hch]
    rw [hstands]
    exact h.forget hno (.refl x) rfl (fun _ _ => rfl) (by rw [← hch])
  | some ch =>
    have hresolves : s.entryOf o = x.cm.committed.resolve ch := by rw [← hentry, State.entryOf, hch]
    cases hresolve : x.cm.committed.resolve ch with
    | none =>
      have hforgets : x.wakeOutput o = x.setChannel o none := by simp only [State.wakeOutput, hch, hresolve]
      rw [hforgets]
      exact h.forget (hresolves.trans hresolve) (x.setChannel_samePool o none) rfl
        (fun p hp => (x.setChannel_other hp none).1) (x.setChannel_same o none).1
    | some e =>
      have hallocates : x.wakeOutput o = x.allocateOrWait o e := by simp only [State.wakeOutput, hch, hresolve]
      rw [hallocates]
      exact h.allocate (hresolves.trans hresolve)

theorem State.wakeAll_waking (hasleep : ∀ o : OutputId, s.ou[o].mode = .standby ∧ s.ou[o].attachment = .none)
    (hidle : ∀ u : TunerId, s.tp.tuners[u] = .idle) : s.Waking 4 s.wakeAll :=
  (((State.Waking.zero hasleep hidle).wakeOutput (o := 0)).wakeOutput (o := 1)).wakeOutput (o := 2) |>.wakeOutput (o := 3)

theorem State.Waking.poolLaw (h : s.Waking 4 x) (running : x.phase = .running) : x.PoolLaw := by
  refine h.seated.poolLaw h.manned h.served (fun o => ?_) (fun o hneed hno => ?_) (fun o _ hch hno => ?_)
    (fun o p => (h.active o).trans (h.active p).symm) running
  · rw [State.wants_active (h.active o)]
    cases he : s.entryOf o with
    | none => rw [State.entryOf, h.gone o o.isLt he]
    | some e => rw [State.entryOf_congr (h.woken o o.isLt e he).1 h.cm, he]
  · obtain ⟨e, he⟩ := Option.ne_none_iff_exists'.1 hneed
    obtain ⟨-, ⟨-, hwaits⟩ | ⟨u, hseat⟩⟩ := h.woken o o.isLt e he
    · cases hno.symm.trans hwaits
    · cases hno.symm.trans hseat
  · exact hch (h.gone o o.isLt hno)

/-! ### Decisions of rooms that are awake (R149) -/

theorem State.decidePay_ne_off (service : Nat) : s.decidePay service ≠ .off := by
  unfold State.decidePay
  split
  · split_ifs
    · nofun
    all_goals
      split
      all_goals nofun
  · nofun

theorem State.decideEntitled_ne_off : s.decideEntitled e ≠ .off := by
  unfold State.decideEntitled
  split
  · nofun
  · split_ifs <;> nofun
  · exact State.decidePay_ne_off _

theorem State.decideAttached_ne_off (ch : Nat) : (s.decideAttached o ch u).1 ≠ .off := by
  unfold State.decideAttached
  split_ifs
  · nofun
  · split
    iterate 4 nofun
    · split
      · nofun
      · split
        · nofun
        · exact State.decideEntitled_ne_off
        all_goals exact State.decideEntitled_ne_off

/-- OFF is the decision of standby alone. -/
theorem State.decision_ne_off (h : s.ou[o].mode = .active) : (s.decisionRecord o).decision ≠ .off := by
  have hdecision : (s.decisionRecord o).decision = (s.decideOutput o).1 := rfl
  rw [hdecision]
  unfold State.decideOutput
  rw [h]
  cases s.ou[o].channel with
  | none => nofun
  | some ch =>
    cases s.ou[o].attachment with
    | none => nofun
    | waiting => nofun
    | tuner u sl => exact State.decideAttached_ne_off ch

theorem State.finish_latches (old x : State) (os : List OutputId) (o : OutputId) :
    x.Latches o (State.finish old os x) := by
  have hpins := State.loadRoutes_pinsOnly old x
  obtain ⟨h⟩ := (State.loadRoutes old x).report_latches (State.touched old x ++ os) o
  have hcl : (State.loadRoutes old x).cl = x.cl := by rw [hpins.rest]
  have hae : (State.loadRoutes old x).ae = x.ae := by rw [hpins.rest]
  rw [hcl, hae] at h
  exact ⟨h⟩

/-- An output decided as awake that had been OFF has its OUTPUT_STATE latched (R162). -/
theorem State.Latches.of_off (h : s.Latches o t) (hoff : s.ae[o].decision = .off) (hdecided : t.Evaluated o)
    (hactive : t.ou[o].mode = .active) : t.cl.isSet (.outputState o) = true := by
  refine h.iff.2 (.inr fun hsame => ?_)
  have hdiffers := State.decision_ne_off hactive
  rw [← hdecided.1] at hdiffers
  have hdecision := Decision.sameButMinutes_iff.1 hsame.1
  rw [hoff] at hdecision
  cases hnew : t.ae[o].decision <;> rw [hnew] at hdecision hdiffers
  case off => exact hdiffers rfl
  all_goals cases hdecision

end

/-- Settles O33, output by output in ascending number. -/
theorem wakeServesEveryRoom : Obligations.WakeServesEveryRoom := by
  intro s r rest h hk hb
  have hread : readNone r.body = some () := by rw [hb]; rfl
  refine ⟨fun ⟨o, hactive⟩ => ?_, fun hasleep hidle => ?_⟩
  · have hawake : (s.unqueued rest).awake = true := (s.unqueued rest).awake_iff.2 ⟨o, hactive⟩
    exact h.answers rfl hk hread (by rw [hawake]; rfl)
  · have hstandby : (s.unqueued rest).awake = false := State.awake_eq_false fun o => (hasleep o).1
    have hserved := h.served (c := .wake) (st := .accepted) (body := [])
      (x := State.finish (s.unqueued rest) allOutputs (s.unqueued rest).wakeAll) rfl hk hread (by
        rw [hstandby]
        rfl)
    have hwaking := State.wakeAll_waking (s := s.unqueued rest) hasleep hidle
    have hrewires := (s.unqueued rest).wakeAll_rewires
    have hpasses : (s.unqueued rest).wakeAll.pc.passes = (s.unqueued rest).passesKept (s.unqueued rest).wakeAll := by
      rw [(s.unqueued rest).wakeAll_clears.passes]
      simp only [State.passesKept, State.setModes_passes, State.setModes_ou]
    have hretunes := hrewires.retunes hpasses hwaking.tuned allOutputs
    have hrests := State.finish_storeRests (s.unqueued rest) allOutputs (s.unqueued rest).wakeAll
    have hss : (s.unqueued rest).wakeAll.ss = s.ss := by rw [hrewires.rest]; rfl
    have hphase : (s.unqueued rest).wakeAll.phase = .running := by rw [hrewires.rest]; exact h.1
    have hdecided (o : OutputId) : (State.finish (s.unqueued rest) allOutputs (s.unqueued rest).wakeAll).Evaluated o :=
      State.finish_evaluated (List.mem_append_right _ (State.mem_allOutputs o))
    have hlatches (o : OutputId) := State.finish_latches (s.unqueued rest) (s.unqueued rest).wakeAll allOutputs o
    have hae : (s.unqueued rest).wakeAll.ae = s.ae := by rw [hrewires.rest]; rfl
    obtain ⟨hphase', -, -, hcm, htp, hou, -⟩ :=
      State.finish_frame (s.unqueued rest) allOutputs (s.unqueued rest).wakeAll
    have hpool := (hwaking.poolLaw hphase).congr hou htp (by rw [hcm]) (by rw [hphase']; exact id)
    clear hpasses
    generalize (s.unqueued rest).wakeAll = x at *
    generalize State.finish (s.unqueued rest) allOutputs x = t at *
    refine ⟨_, hserved, hretunes.answered, hrests.answered hss, hpool, fun o _ => hdecided o, fun o => ?_⟩
    have hactive : t.ou[o].mode = .active := by rw [hou]; exact hwaking.active o
    refine ⟨hactive, fun hoff => (hlatches o).of_off (by rw [hae]; exact hoff) (hdecided o) hactive, fun hno => ?_,
      fun e he => ?_⟩
    · exact ⟨(congrArg (fun ou : Vector Output 4 => ou[o].channel) hou).trans (hwaking.gone o o.isLt hno),
        (congrArg (fun ou : Vector Output 4 => ou[o].attachment) hou).trans (hwaking.seated.att_none hno)⟩
    · obtain ⟨hchannel, hseat⟩ := hwaking.woken o o.isLt e he
      refine ⟨(congrArg (fun ou : Vector Output 4 => ou[o].channel) hou).trans hchannel, ?_⟩
      have hatt := congrArg (fun ou : Vector Output 4 => ou[o].attachment) hou
      obtain ⟨ho, hwaits⟩ | ⟨u, hseat⟩ := hseat
      · exact .inl ⟨ho, hatt.trans hwaits⟩
      · obtain ⟨hbusy, e', he', -, hcarrier⟩ := hwaking.seated.seats o u e.slot hseat
        obtain rfl : e = e' := Option.some.inj (he.symm.trans he')
        rw [← htp] at hbusy hcarrier
        obtain ⟨hidled, -⟩ | ⟨c, hstarted, hdrives, -⟩ := hretunes.2.2 u
        · have hno : t.tp.tuners[u] = .idle := hidled.elim (fun hkept => hkept.trans (hidle u)) id
          rw [hno] at hbusy
          exact absurd rfl hbusy
        · obtain rfl : c = e.carrier := by
            rw [hstarted] at hcarrier
            exact Option.some.inj hcarrier
          exact .inr ⟨u, hatt.trans hseat, hstarted, hdrives⟩

end Sys2Proof.Machine

/-! PROOF. SELECT is served by the first case of allocation that applies: O35. -/

namespace Sys2Proof.Machine

section

variable {s t x : State} {o p : OutputId} {u w : TunerId} {need : OutputId → Option MapEntry} {e : MapEntry} {c : Nat}

/-! ### The pool without one output -/

/-- What the outputs need where `o` is to have `e`. -/
def State.wantsFor (s : State) (o : OutputId) (e : MapEntry) (p : OutputId) : Option MapEntry :=
  if p = o then some e else s.wants p

theorem State.wantsFor_same (s : State) (o : OutputId) (e : MapEntry) : s.wantsFor o e o = some e := if_pos rfl

theorem State.wantsFor_other (h : p ≠ o) : s.wantsFor o e p = s.wants p := if_neg h

theorem State.detach_free (w : TunerId) (sl : ServiceSlot) : (s.attach o .none).ou[o].attachment ≠ .tuner w sl := by
  rw [State.attach_att, if_pos rfl]
  nofun

/-- An output that has been detached is attached as one that has not. -/
theorem State.attach_attach (o : OutputId) (a b : Attachment) (s : State) :
    (s.attach o a).attach o b = s.attach o b := by
  have hou : (s.attach o a).ou.set o { (s.attach o a).ou[o] with attachment := b } =
      s.ou.set o { s.ou[o] with attachment := b } := by
    rw [State.attach_same]
    exact Vector.set_set ..
  unfold State.attach State.setOutput at hou ⊢
  rw [hou]

theorem State.Sound.detached_seated (h : s.Sound) : (s.attach o .none).Seated (s.wantsFor o e) := by
  refine ⟨h.seated.idle, h.seated.busy, h.seated.apart, fun p w sl hp => ?_, fun p hp => ?_⟩
  · rw [State.attach_att] at hp
    split_ifs at hp with hpo
    rw [State.wantsFor_other hpo]
    exact h.seated.seats p w sl hp
  · rw [State.attach_att] at hp
    split_ifs at hp with hpo
    rw [State.wantsFor_other hpo, (s.attach_allots o .none).entryOf]
    exact h.seated.waits p hp

theorem State.Sound.detached_served (h : s.Sound) : (s.attach o .none).Served (s.wantsFor o e) := by
  intro p hp x hx
  rw [State.attach_att] at hp
  split_ifs at hp with hpo
  rw [State.wantsFor_other hpo] at hx
  exact h.served p hp x hx

/-- A tuner that only the detached output watched. -/
theorem State.Sound.detached_vacant (h : s.Sound) (hu : s.tp.tuners[u].state ≠ .idle)
    (hvacant : (s.attach o .none).Vacant u) : s.attachedTo u = [o] := by
  have hon {p : OutputId} (hp : p ∈ s.attachedTo u) : p = o := by
    obtain ⟨sl, hsl⟩ := State.mem_attachedTo.1 hp
    by_contra hpo
    refine hvacant p sl ?_
    rw [State.attach_att, if_neg hpo]
    exact hsl
  have hsome : s.attachedTo u ≠ [] := fun hnil => h.manned u hu (State.attachedTo_eq_nil.1 hnil)
  have hnodup : (s.attachedTo u).Nodup := allOutputs_nodup.filter _
  match hlist : s.attachedTo u with
  | [] => exact absurd hlist hsome
  | [p] => exact congrArg (fun q => [q]) (hon (hlist ▸ List.mem_singleton_self p))
  | p :: q :: l =>
    rw [hlist] at hnodup hon
    have hpq : p = q := (hon (List.mem_cons_self ..)).trans (hon (List.mem_cons_of_mem _ (List.mem_cons_self ..))).symm
    exact absurd (hpq ▸ List.mem_cons_self ..) (List.nodup_cons.1 hnodup).1

theorem State.vacant_of_attachedTo (h : s.attachedTo u = [o]) : (s.attach o .none).Vacant u := by
  intro p sl hp
  rw [State.attach_att] at hp
  split_ifs at hp with hpo
  exact hpo (List.mem_singleton.1 (h ▸ State.mem_attachedTo.2 ⟨sl, hp⟩))

theorem State.attachedTo_unique (hu : s.attachedTo u = [o]) (hw : s.attachedTo w = [o]) : u = w := by
  obtain ⟨sl, hsl⟩ := State.mem_attachedTo.1 (hu ▸ List.mem_singleton_self o : o ∈ s.attachedTo u)
  obtain ⟨sl', hsl'⟩ := State.mem_attachedTo.1 (hw ▸ List.mem_singleton_self o : o ∈ s.attachedTo w)
  exact (Attachment.tuner.inj (hsl.symm.trans hsl')).1

/-- With the output on `u`, the tuners at work are watched where no other was the output's own. -/
theorem State.Sound.seat_manned (h : s.Sound) {sl : ServiceSlot}
    (hatt : ∀ p : OutputId, x.ou[p].attachment = if p = o then .tuner u sl else s.ou[p].attachment)
    (htuners : ∀ v : TunerId, v ≠ u → x.tp.tuners[v] = s.tp.tuners[v]) (hown : ∀ w, w ≠ u → s.attachedTo w ≠ [o]) :
    x.Manned := by
  intro v hv hvacant
  have hne : v ≠ u := by
    rintro rfl
    refine hvacant o sl ?_
    rw [hatt, if_pos rfl]
  rw [htuners v hne] at hv
  refine hown v hne (h.detached_vacant hv fun p sl' hp => ?_)
  rw [State.attach_att] at hp
  split_ifs at hp with hpo
  refine hvacant p sl' ?_
  rw [hatt, if_neg hpo]
  exact hp

/-! ### The arbiter's answer to a SELECT (R33, R34) -/

/-- The arbiter has placed output `o` on tuner `u`, with `record` of the tuners. -/
structure State.Picks (s : State) (o : OutputId) (e : MapEntry) (u : TunerId) (record : TunerId → Tuner) (x : State) :
    Prop where
  allocates : s.allocate o e.carrier e.slot = some x
  moves : State.Moves (s.wantsFor o e) (s.attach o .none) x
  manned : x.Manned
  served : x.Served (s.wantsFor o e)
  seat : x.ou[o].attachment = .tuner u e.slot
  tuners : ∀ w : TunerId, x.tp.tuners[w] = record w

/-- A tuner that starts for the output takes the outputs along that wait for its carrier (R33 cases 2 and 3, R38). -/
theorem State.Sound.starts (h : s.Sound) (hvacant : (s.attach o .none).Vacant u) (hunmet : s.Unmet e.carrier)
    (hown : ∀ w ≠ u, s.attachedTo w ≠ [o])
    (hchoose : s.choose o e.carrier = .retune u ∨ s.choose o e.carrier = .start u) :
    ∃ x, s.Picks o e u (fun w => if w = u then s.startedOn e.carrier else s.tp.tuners[w]) x := by
  have hseated := h.detached_seated (o := o) (e := e)
  obtain ⟨hseats, hleft, hseat, -⟩ :=
    State.start_seats hseated State.detach_free (s.wantsFor_same o e) hvacant hunmet
  have htuners (w : TunerId) := State.start_tuners o u w (.tuner u e.slot) e.carrier (s.attach o .none)
  rw [State.attach_attach] at hseats hleft hseat
  simp only [State.attach_attach] at htuners
  have hmanned : ((s.attach o (.tuner u e.slot)).acquire u e.carrier).Manned :=
    h.seat_manned (fun p => State.start_att o p u _ _ s)
      (fun v hv => by rw [State.start_tuner, if_neg hv]) hown
  have hwatched : (((s.attach o (.tuner u e.slot)).acquire u e.carrier).attachWaiters u e.carrier).Manned := by
    have hstart :
        State.Seat (s.wantsFor o e) (s.attach o .none) ((s.attach o (.tuner u e.slot)).acquire u e.carrier) := by
      have hseat := State.Seat.start (need := s.wantsFor o e) o u e State.detach_free (s.wantsFor_same o e) hvacant
        hunmet
      rwa [State.attach_attach] at hseat
    obtain ⟨hjoin, -⟩ := State.attachWaiters_seats (o := o) (u := u) (sl := e.slot) (c := e.carrier)
      (hstart.seated hseated) (by rw [State.start_att, if_pos rfl]) (by rw [State.start_tuner, if_pos rfl]; rfl)
    exact State.Seats.manned hjoin hmanned
  have hallocates : s.allocate o e.carrier e.slot =
      some (((s.attach o (.tuner u e.slot)).acquire u e.carrier).attachWaiters u e.carrier) := by
    unfold State.allocate
    obtain hch | hch := hchoose <;> rw [hch]
    · exact congrArg some (State.release_of_manned hwatched)
    · exact congrArg some (State.release_of_manned hwatched)
  refine ⟨_, hallocates, State.Seats.moves hseats, hwatched, fun p hp x hx v => ?_, hseat, htuners⟩
  rw [htuners]
  obtain ⟨hbusy, hcarrier⟩ := h.detached_served p (State.Seats.waiting hseats hp) x hx v
  split_ifs
  · exact ⟨nofun, fun heq => hleft p x hp hx (Option.some.inj heq).symm⟩
  · exact ⟨hbusy, hcarrier⟩

/-- What becomes of tuner `w` where output `o` goes to tuner `u`, which is on its carrier: left by its last output, it
takes up the first waiting output's carrier (R31, R34, R37). -/
def State.leftTuner (s : State) (o : OutputId) (u w : TunerId) : Tuner :=
  if w ≠ u ∧ s.attachedTo w = [o] then
    match s.waitingList.head?.bind s.needs with
    | none => .idle
    | some c => s.startedOn c
  else s.tp.tuners[w]

theorem State.leftTuner_of_not (h : ¬(w ≠ u ∧ s.attachedTo w = [o])) : s.leftTuner o u w = s.tp.tuners[w] := if_neg h

/-- The tuner that an output's move to another leaves without outputs. -/
theorem State.Sound.emptied_iff_eq (h : s.Sound) {sl : ServiceSlot} {v : TunerId} (hw : w ≠ u)
    (halone : s.attachedTo w = [o]) : (s.attach o (.tuner u sl)).emptied v = true ↔ v = w := by
  rw [State.emptied_iff]
  constructor
  · rintro ⟨hbusy, hvacant⟩
    refine State.attachedTo_unique (h.detached_vacant hbusy fun p sl' hp => ?_) halone
    rw [State.attach_att] at hp
    split_ifs at hp with hpo
    refine hvacant p sl' ?_
    rw [State.attach_att, if_neg hpo]
    exact hp
  · rintro rfl
    obtain ⟨sl', hsl⟩ := State.mem_attachedTo.1 (halone ▸ List.mem_singleton_self o : o ∈ s.attachedTo v)
    refine ⟨(h.seated.seats o v sl' hsl).1, fun p sl' hp => ?_⟩
    rw [State.attach_att] at hp
    split_ifs at hp with hpo
    · exact hw (Attachment.tuner.inj hp).1.symm
    · exact hpo (List.mem_singleton.1 (halone ▸ State.mem_attachedTo.2 ⟨sl', hp⟩))

/-- That tuner alone goes IDLE. -/
theorem State.Sound.idleEmptied_joined (h : s.Sound) {sl : ServiceSlot} (hw : w ≠ u) (halone : s.attachedTo w = [o])
    (v : TunerId) : (s.attach o (.tuner u sl)).idleEmptied.tp.tuners[v] = if v = w then .idle else s.tp.tuners[v] := by
  rw [State.idleEmptied_tuner]
  exact if_congr (h.emptied_iff_eq hw halone) rfl rfl

/-- The outputs that wait, wait on. -/
theorem State.waiting_joined {sl : ServiceSlot} (halone : s.attachedTo w = [o]) (p : OutputId) :
    (s.attach o (.tuner u sl)).idleEmptied.ou[p].attachment = .waiting ↔ s.ou[p].attachment = .waiting := by
  have hou : (s.attach o (.tuner u sl)).idleEmptied.ou = (s.attach o (.tuner u sl)).ou := by
    rw [State.idleEmptied_rest]
  obtain ⟨sl', hsl⟩ := State.mem_attachedTo.1 (halone ▸ List.mem_singleton_self o : o ∈ s.attachedTo w)
  rw [hou, State.attach_att]
  split_ifs with hpo
  · subst hpo
    rw [hsl]
    exact iff_of_false nofun nofun
  · rfl

/-- The tuners after an output has joined `u` (R34 step 3). -/
theorem State.Sound.joined_tuner (h : s.Sound) {sl : ServiceSlot}
    (hseated : (s.attach o (.tuner u sl)).Seated (s.wantsFor o e)) (v : TunerId) :
    (s.attach o (.tuner u sl)).release.tp.tuners[v] = s.leftTuner o u v := by
  by_cases hleft : ∃ w, w ≠ u ∧ s.attachedTo w = [o]
  case neg =>
    rw [State.leftTuner_of_not fun hv => hleft ⟨v, hv⟩, State.release_of_manned]
    · rfl
    · exact h.seat_manned (fun p => State.attach_att o p _ s) (fun _ _ => rfl) fun w hw halone => hleft ⟨w, hw, halone⟩
  obtain ⟨w, hw, halone⟩ := hleft
  have hemptied {v : TunerId} := h.emptied_iff_eq (sl := sl) (v := v) hw halone
  have hrelease : (s.attach o (.tuner u sl)).release = (s.attach o (.tuner u sl)).idleEmptied.serveWaiting :=
    if_pos (List.any_eq_true.2 ⟨w, mem_allTuners w, hemptied.2 rfl⟩)
  have htuner (v : TunerId) := h.idleEmptied_joined (sl := sl) hw halone v
  have hleave : s.leftTuner o u v = if v = w then
      match s.waitingList.head?.bind s.needs with
      | none => .idle
      | some c => s.startedOn c
    else s.tp.tuners[v] := by
    refine if_congr ⟨fun hv => State.attachedTo_unique hv.2 halone, ?_⟩ rfl rfl
    rintro rfl
    exact ⟨hw, halone⟩
  have hwaits (p : OutputId) := State.waiting_joined (u := u) (sl := sl) halone p
  have hlist : (s.attach o (.tuner u sl)).idleEmptied.waitingList = s.waitingList := by
    refine List.filter_congr fun p _ => Bool.eq_iff_iff.2 ?_
    rw [beq_iff_eq, beq_iff_eq, hwaits]
  rw [hrelease, hleave]
  cases hfirst : s.waitingList.head? with
  | none =>
    have hnone := List.head?_eq_none_iff.1 hfirst
    rw [State.serveWaiting_of_not_waiting fun p hp => ?_, htuner]
    · rfl
    · have hmem : p ∈ s.waitingList := List.mem_filter.2 ⟨State.mem_allOutputs p, beq_iff_eq.2 ((hwaits p).1 hp)⟩
      rw [hnone] at hmem
      cases hmem
  | some p =>
    have hp : s.ou[p].attachment = .waiting := by
      have hmem := List.mem_of_mem_head? hfirst
      exact beq_iff_eq.1 (List.mem_filter.1 hmem).2
    obtain ⟨x, hx, hentry⟩ := h.seated.waits p hp
    have hserved := h.served p hp x hx
    have hneeds : s.needs p = some x.carrier := by rw [State.needs, hentry]; rfl
    have hpo : p ≠ o := by
      rintro rfl
      obtain ⟨sl', hsl⟩ := State.mem_attachedTo.1 (halone ▸ List.mem_singleton_self p : p ∈ s.attachedTo w)
      cases hp.symm.trans hsl
    have hidle : (s.attach o (.tuner u sl)).idleEmptied.tp.tuners[w].state = .idle := by
      rw [htuner, if_pos rfl]
      rfl
    have hbusy (y : TunerId) (hy : y ≠ w) : (s.attach o (.tuner u sl)).idleEmptied.tp.tuners[y].state ≠ .idle := by
      rw [htuner, if_neg hy]
      exact (hserved y).1
    have hunmet : (s.attach o (.tuner u sl)).idleEmptied.Unmet x.carrier := by
      intro y hy
      rw [htuner] at hy ⊢
      split_ifs at hy ⊢
      · exact absurd rfl hy
      · exact (hserved y).2
    have hstarted : (s.attach o (.tuner u sl)).idleEmptied.startedOn x.carrier = s.startedOn x.carrier := by
      rw [State.startedOn, State.idleEmptied_rest]
      rfl
    rw [State.serveWaiting_first ((State.idleEmptied_vacates _).seated hseated) (State.idleEmptied_manned _) hidle hbusy
      (hlist.symm ▸ hfirst) ((State.wantsFor_other hpo).trans hx) hunmet, htuner, hstarted]
    simp only [Option.bind_some, hneeds]
    split_ifs <;> rfl

/-- An output that joins a tuner on its carrier (R33 case 1). -/
theorem State.Sound.joins (h : s.Sound) (hu : s.tp.tuners[u].state ≠ .idle)
    (hcarrier : s.tp.tuners[u].carrier = some e.carrier) (hchoose : s.choose o e.carrier = .attach u) :
    ∃ x, s.Picks o e u (s.leftTuner o u) x := by
  have hseated := h.detached_seated (o := o) (e := e)
  have hjoin : State.Seat (s.wantsFor o e) (s.attach o .none) (s.attach o (.tuner u e.slot)) := by
    have hseat := State.Seat.join (need := s.wantsFor o e) o u e State.detach_free (s.wantsFor_same o e)
      (s := s.attach o .none) hu hcarrier
    rwa [State.attach_attach] at hseat
  have hserved : (s.attach o (.tuner u e.slot)).Served (s.wantsFor o e) := by
    intro p hp
    rw [State.attach_att] at hp
    split_ifs at hp with hpo
    refine h.detached_served p ?_
    rw [State.attach_att, if_neg hpo]
    exact hp
  have hjoined := hjoin.seated hseated
  obtain ⟨hmoves, hmanned, hstill⟩ := State.release_moves hjoined
  have hallocates : s.allocate o e.carrier e.slot = some (s.attach o (.tuner u e.slot)).release := by
    unfold State.allocate
    rw [hchoose]
    rfl
  have hseat : (s.attach o (.tuner u e.slot)).ou[o].attachment = .tuner u e.slot := by rw [State.attach_att, if_pos rfl]
  refine ⟨_, hallocates, .head (.seat hjoin) hmoves, hmanned, hstill hserved, (State.Moves.keeps hmoves hseat).1,
    h.joined_tuner hjoined⟩

end

section

variable {s t x : State} {o p : OutputId} {u w : TunerId} {need : OutputId → Option MapEntry} {e : MapEntry} {c ch : Nat}
  {record : TunerId → Tuner}

/-! ### The case of R33 that applies -/

theorem State.Sound.choose_held (h : s.Sound) (hu : s.tp.tuners[u].state ≠ .idle) (hc : s.tp.tuners[u].carrier = some c) :
    s.choose o c = .attach u := by
  cases hholder : s.holder c with
  | none => exact absurd hc (State.holder_eq_none.1 hholder u hu)
  | some w =>
    obtain ⟨hw, hwc⟩ := State.holder_eq_some hholder
    have huw : w = u := by
      by_contra hne
      exact h.seated.apart w u hne hw hu (hwc.trans hc.symm)
    rw [State.choose, hholder, huw]

theorem State.choose_own (hunmet : s.Unmet c) (hown : s.attachedTo u = [o]) : s.choose o c = .retune u := by
  rw [State.choose, State.holder_eq_none.2 hunmet, State.ownTuner_eq_some.2 hown]

theorem State.ownTuner_eq_none (hown : ∀ u, s.attachedTo u ≠ [o]) : s.ownTuner o = none :=
  Option.eq_none_iff_forall_ne_some.2 fun u hu => hown u (State.ownTuner_eq_some.1 hu)

theorem State.choose_idle (hunmet : s.Unmet c) (hown : ∀ u, s.attachedTo u ≠ [o]) (hu : s.tp.tuners[u].state = .idle)
    (hlowest : ∀ w < u, s.tp.tuners[w].state ≠ .idle) : s.choose o c = .start u := by
  cases hidle : s.idleTuner with
  | none => exact absurd hu (State.idleTuner_eq_none.1 hidle u)
  | some w =>
    obtain ⟨hw, hleast⟩ := State.idleTuner_eq_some hidle
    have huw : w = u := le_antisymm (not_lt.1 fun hlt => hleast u hlt hu) (not_lt.1 fun hlt => hlowest w hlt hw)
    rw [State.choose, State.holder_eq_none.2 hunmet, State.ownTuner_eq_none hown, hidle, huw]

theorem State.choose_none (hunmet : s.Unmet c) (hown : ∀ u, s.attachedTo u ≠ [o])
    (hbusy : ∀ u : TunerId, s.tp.tuners[u].state ≠ .idle) : s.choose o c = .none := by
  rw [State.choose, State.holder_eq_none.2 hunmet, State.ownTuner_eq_none hown, State.idleTuner_eq_none.2 hbusy]

/-! ### The selected channel (R49, R50) -/

theorem State.Tuned.of_same (hif : t.tp.ifKHz = s.tp.ifKHz) (hpins : t.pins = s.pins)
    (htuners : t.tp.tuners = s.tp.tuners) : s.Tuned t :=
  ⟨hif, [], by rw [hpins, List.append_nil], nofun, fun u => .inl ⟨.inl (by rw [htuners]), nofun⟩⟩

/-- A move leaves no output without a tuner that had one or waited. -/
theorem State.Move.att_ne_none (h : State.Move need s t) (hatt : s.ou[p].attachment ≠ .none) :
    t.ou[p].attachment ≠ .none := by
  cases h with
  | seat h =>
    cases h with
    | join o u e =>
      rw [State.attach_att]
      split_ifs
      · nofun
      · exact hatt
    | start o u e =>
      rw [State.start_att]
      split_ifs
      · nofun
      · exact hatt
  | wait o e =>
    rw [State.attach_att]
    split_ifs
    · nofun
    · exact hatt
  | vacate h =>
    have hou : t.ou = s.ou := by rw [h.rest]
    rw [hou]
    exact hatt

theorem State.Moves.att_ne_none (h : State.Moves need s t) (hatt : s.ou[p].attachment ≠ .none) :
    t.ou[p].attachment ≠ .none := by
  induction h with
  | refl => exact hatt
  | tail _ hmove ih => exact hmove.att_ne_none ih

namespace State.Picks

theorem allots (h : s.Picks o e u record x) : s.Allots x := State.allocate_allots h.allocates

theorem rewires (h : s.Picks o e u record x) : s.Rewires (x.setChannel o (some ch)) :=
  h.allots.rewires.trans (x.setChannel_rewires o (some ch))

theorem channel (h : s.Picks o e u record x) (p : OutputId) :
    (x.setChannel o (some ch)).ou[p].channel = if p = o then some ch else s.ou[p].channel := by
  split_ifs with hp
  · subst hp
    rw [(x.setChannel_same p _).1]
  · rw [(x.setChannel_other hp _).1, (h.allots.seats p).2]

theorem mode (h : s.Picks o e u record x) (p : OutputId) : (x.setChannel o (some ch)).ou[p].mode = s.ou[p].mode := by
  by_cases hp : p = o
  · subst hp
    rw [(x.setChannel_same p _).1]
    exact (h.allots.seats p).1
  · rw [(x.setChannel_other hp _).1, (h.allots.seats p).1]

theorem passes (h : s.Picks o e u record x) (hch : s.ou[o].channel ≠ some ch) :
    (x.setChannel o (some ch)).pc.passes = s.passesKept (x.setChannel o (some ch)) := by
  have hpc : x.pc = s.pc := by rw [h.allots.rest]
  refine Vector.ext fun i hi => ?_
  rw [State.passesKept, Vector.getElem_ofFn, h.channel]
  split_ifs with hp hsame hsame
  · subst hp
    exact absurd hsame.symm hch
  · subst hp
    exact (x.setChannel_same _ _).2
  · refine (x.setChannel_other hp _).2.trans ?_
    rw [hpc]
  · exact absurd rfl hsame

theorem tuned (h : s.Picks o e u record x) : s.Tuned (x.setChannel o (some ch)) :=
  (x.setChannel_samePool o _).tuned (State.Moves.tuned h.moves (.of_same rfl rfl rfl))

/-- The pool stays sound (R18, R33, R36 to R38, R44). -/
theorem poolLaw (h : s.Picks o e u record x) (k : s.Sound) (hactive : s.ou[o].mode = .active)
    (hch : s.cm.committed.resolve ch = some e) (running : s.phase = .running) : (x.setChannel o (some ch)).PoolLaw := by
  have hsame := x.setChannel_samePool o (some ch)
  have hcm : (x.setChannel o (some ch)).cm = s.cm := by rw [(h.rewires (ch := ch)).rest]
  have hphase : (x.setChannel o (some ch)).phase = .running := by rw [(h.rewires (ch := ch)).rest]; exact running
  have hseated : x.Seated (s.wantsFor o e) := State.Moves.seated h.moves k.detached_seated
  have hentry (p : OutputId) : (x.setChannel o (some ch)).entryOf p = if p = o then some e else s.entryOf p := by
    rw [State.entryOf, h.channel, hcm]
    split_ifs
    · exact hch
    · rfl
  refine (hsame.seated hseated fun p hp => ?_).poolLaw (hsame.manned h.manned) (hsame.served h.served)
    (fun p => ?_) (fun p hneed => ?_) (fun p hmode hsome => ?_) (fun p q => ?_) hphase
  · have hpo : p ≠ o := by
      rintro rfl
      cases hp.symm.trans h.seat
    rw [hentry, if_neg hpo, h.allots.entryOf]
  · unfold State.wants State.wantsFor
    rw [h.mode, hentry]
    by_cases hpo : p = o
    · subst hpo
      rw [if_pos hactive, if_pos rfl, if_pos rfl]
    · rw [if_neg hpo, if_neg hpo]
      rfl
  · rw [hsame.att]
    by_cases hpo : p = o
    · subst hpo
      rw [h.seat]
      nofun
    · rw [State.wantsFor_other hpo] at hneed
      refine State.Moves.att_ne_none h.moves ?_
      rw [State.attach_att, if_neg hpo]
      exact k.settled p hneed
  · rw [h.mode] at hmode
    rw [h.channel] at hsome
    unfold State.wantsFor
    split_ifs at hsome ⊢ with hpo
    · nofun
    · rw [State.wants_active hmode]
      exact k.resolved p hmode hsome
  · rw [h.mode, h.mode]
    exact k.modes p q

theorem ou (h : s.Picks o e u record x) (hactive : s.ou[o].mode = .active) :
    (x.setChannel o (some ch)).ou[o] = { mode := .active, channel := some ch, attachment := .tuner u e.slot } := by
  rw [(x.setChannel_same o _).1]
  dsimp only
  rw [h.seat, (h.allots.seats o).1, hactive]

theorem ou_other (h : s.Picks o e u record x) (hp : p ≠ o) (hw : s.ou[p].attachment ≠ .waiting) :
    (x.setChannel o (some ch)).ou[p] = s.ou[p] := by
  rw [(x.setChannel_other hp _).1]
  exact State.allocate_stays h.allocates p hp hw

/-- SELECT past its checks, once the arbiter has placed its output. -/
theorem selects (h : s.Picks o e u record x) (hawake : s.awake = true) (hresolve : s.cm.committed.resolve ch = some e)
    (hch : s.ou[o].channel ≠ some ch) :
    s.selectChannel o ch = ⟨State.finish s [o] (x.setChannel o (some ch)), .accepted, []⟩ := by
  have hname := (Lineup.mem_of_resolve hresolve).2
  unfold State.selectChannel State.selectEntry
  rw [hawake, hresolve]
  dsimp only
  rw [h.allocates, hname, if_neg hch]
  rfl

end State.Picks

/-- SELECT past its checks, where no tuner can serve (R49). -/
theorem State.selectChannel_noTuner (hawake : s.awake = true) (hresolve : s.cm.committed.resolve ch = some e)
    (hch : s.ou[o].channel ≠ some ch) (hchoose : s.choose o e.carrier = .none) :
    s.selectChannel o ch = answer .noTuner s := by
  have hname := (Lineup.mem_of_resolve hresolve).2
  have hnone : s.allocate o e.carrier e.slot = none := by
    unfold State.allocate
    rw [hchoose]
  unfold State.selectChannel State.selectEntry
  rw [hawake, hresolve]
  dsimp only
  rw [hnone, hname, if_neg hch]
  rfl

/-- Where the route to the output is new, its word is loaded. -/
theorem State.RoutesFollow.drives {sl : ServiceSlot} (h : s.RoutesFollow t) (hatt : t.ou[o].attachment = .tuner u sl)
    (hroute : s.route o ≠ some ⟨u, sl⟩) :
    s.Drives t (.route o (BitVec.ofNat 2 u.val ++ BitVec.ofNat 2 sl.val)) := by
  have hnew : t.route o = some ⟨u, sl⟩ := by rw [State.route, hatt]; rfl
  have hdrives := (h o).1 (by rw [hnew]; exact hroute.symm)
  rwa [hnew] at hdrives

/-- A tuner whose record has become that of a start has had its divisor transferred. -/
theorem State.TransfersFollow.drives (h : s.TransfersFollow t) (hstarted : t.tp.tuners[u] = s.startedOn c)
    (hnew : s.tp.tuners[u] ≠ s.startedOn c) : s.Drives t (s.startTransfer u c) := by
  obtain ⟨hkept | hidle, -⟩ | ⟨d, hd, hdrives, -⟩ := h u
  · exact absurd (hkept.symm.trans hstarted) hnew
  · cases hidle.symm.trans hstarted
  · have hcd : s.startedOn c = s.startedOn d := hstarted.symm.trans hd
    have hc : c = d := Option.some.inj (congrArg Tuner.carrier hcd)
    rwa [hc]

end

/-- Settles O35, case by case of R33. -/
theorem selectIsServedByTheFirstCaseOfAllocation : Obligations.SelectIsServedByTheFirstCaseOfAllocation := by
  intro s r rest o ch e h hk hb hlow hhigh hpool hactive hresolve hch held served
  have hsound : (s.unqueued rest).Sound := State.poolLaw_iff.1 hpool
  have hawake : (s.unqueued rest).awake = true := (s.unqueued rest).awake_iff.2 ⟨o, hactive⟩
  have picked {u : TunerId} {record : TunerId → Tuner} {x : State} (hpick : (s.unqueued rest).Picks o e u record x) :
      served u record := by
    have hexec := h.select hk hb hlow hhigh (hpick.selects hawake hresolve hch)
    have hretunes := hpick.rewires.retunes (hpick.passes hch) hpick.tuned [o]
    have hrests := State.finish_storeRests (s.unqueued rest) [o] (x.setChannel o (some ch))
    have hss : (x.setChannel o (some ch)).ss = s.ss := by rw [(hpick.rewires (ch := ch)).rest]; rfl
    have hevaluated : (State.finish (s.unqueued rest) [o] (x.setChannel o (some ch))).Evaluated o :=
      State.finish_evaluated (List.mem_append_right _ (List.mem_singleton_self o))
    have hpasses := (State.finish_closes (s.unqueued rest) [o] (x.setChannel o (some ch))).2.1 o
    obtain ⟨hphase, -, -, hcm, htp, hou, -⟩ :=
      State.finish_frame (s.unqueued rest) [o] (x.setChannel o (some ch))
    have hlaw := (hpick.poolLaw hsound hactive hresolve h.1).congr hou htp (by rw [hcm]) (by rw [hphase]; exact id)
    have hself := hpick.ou (ch := ch) hactive
    have hother (p : OutputId) (hp : p ≠ o) := hpick.channel (ch := ch) p
    have hstays (p : OutputId) (hp : p ≠ o) := hpick.ou_other (ch := ch) hp
    have htuners : ∀ w : TunerId, (x.setChannel o (some ch)).tp.tuners[w] = record w := hpick.tuners
    have hpass := (x.setChannel_same o (some ch)).2
    generalize x.setChannel o (some ch) = y at *
    generalize State.finish (s.unqueued rest) [o] y = t at *
    rw [← hou] at hself hother hstays
    rw [← htp] at htuners
    have hanswer := State.Retunes.answered (r := r) (st := .accepted) (body := []) hretunes
    have hstore := State.StoreRests.answered (r := r) (rest := rest) (st := .accepted) (body := []) hss hrests
    rw [hk] at hanswer hstore
    refine ⟨_, hexec, hanswer, hstore, hlaw, hself, ?_, hevaluated, hretunes.2.1.drives (by rw [hself]), ?_,
      fun w c hrecord hnew => ?_, fun p hp => ⟨?_, hstays p hp⟩⟩
    · exact hpasses.elim (fun hkept => hkept.trans hpass) And.left
    · exact htuners
    · exact State.TransfersFollow.drives hretunes.2.2 ((htuners w).trans hrecord) hnew
    · exact (hother p hp).trans (if_neg hp)
  refine ⟨fun u hu => ?_, fun hfree => ⟨fun u hown => ?_, fun hshared => ⟨fun u hidle hlowest => ?_, fun hbusy => ?_⟩⟩⟩
  · obtain ⟨x, hpick⟩ := hsound.joins (o := o) hu.1 hu.2 (hsound.choose_held hu.1 hu.2)
    exact picked hpick
  all_goals have hunmet : (s.unqueued rest).Unmet e.carrier := fun u hu hc => hfree u ⟨hu, hc⟩
  · obtain ⟨x, hpick⟩ := hsound.starts (State.vacant_of_attachedTo hown) hunmet
      (fun w hw halone => hw (State.attachedTo_unique halone hown)) (.inl (State.choose_own hunmet hown))
    exact picked hpick
  · obtain ⟨x, hpick⟩ := hsound.starts (o := o) ((hsound.detached_seated (e := e)).vacant hidle) hunmet
      (fun w _ => hshared w) (.inr (State.choose_idle hunmet hshared hidle hlowest))
    exact picked hpick
  · have hrefused := State.selectChannel_noTuner hawake hresolve hch (State.choose_none hunmet hshared hbusy)
    have hexec := h.select hk hb hlow hhigh hrefused
    rw [State.answered, hk]
    exact hexec

end Sys2Proof.Machine

/-! PROOF. Re-resolution after a commit, as a run of moves from the pool with the moved and vanished outputs
detached (section 3.5). -/

namespace Sys2Proof.Machine

section

variable {s t x y : State} {o p : OutputId} {u w : TunerId} {need : OutputId → Option MapEntry} {e : MapEntry} {c ch : Nat}

/-! ### The pool with outputs detached (R54 steps 1 and 2) -/

theorem State.vanish_same (o : OutputId) (s : State) : (s.vanish o).ou[o] = { s.ou[o] with
    channel := none, attachment := if s.ou[o].attachment = .waiting then .none else s.ou[o].attachment } := by
  obtain ⟨hou, -⟩ := s.setChannel_same o none
  unfold State.vanish
  dsimp only
  rw [hou]
  dsimp only
  split_ifs
  · rw [State.attach_same, hou]
  · exact hou

theorem State.foldl_vanish_ou {l : List OutputId} (nodup : l.Nodup) (o : OutputId) (s : State) :
    (l.foldl (fun acc o => acc.vanish o) s).ou[o] = if o ∈ l then { s.ou[o] with
      channel := none, attachment := if s.ou[o].attachment = .waiting then .none else s.ou[o].attachment }
    else s.ou[o] :=
  foldl_pointwise (get := fun (s : State) (o : OutputId) => s.ou[o]) (f := fun acc o => acc.vanish o)
    (g := fun x => { x with channel := none, attachment := if x.attachment = .waiting then .none else x.attachment })
    (fun s o => s.vanish_same o) (fun s _ _ h => s.vanish_other h) nodup o s

theorem State.vanish_rest (o : OutputId) (s : State) : s.vanish o = { s with
    ou := (s.vanish o).ou, pc := { s.pc with passes := (s.vanish o).pc.passes } } := by
  unfold State.vanish
  dsimp only
  split_ifs <;> rfl

theorem State.foldl_vanish_rest (l : List OutputId) (s : State) : l.foldl (fun acc o => acc.vanish o) s = { s with
    ou := (l.foldl (fun acc o => acc.vanish o) s).ou
    pc := { s.pc with passes := (l.foldl (fun acc o => acc.vanish o) s).pc.passes } } :=
  foldl_related (R := fun a b : State => b = { a with ou := b.ou, pc := { a.pc with passes := b.pc.passes } })
    (fun _ => rfl) (fun h k => by rw [h] at k; exact k) (fun a o => a.vanish_rest o) l s

/-- The outputs of the moved and vanished classes, detached, the vanished without their channels. -/
def State.detached (s : State) : State :=
  (s.inClass .vanished ++ s.inClass .moved).foldl (fun acc o => acc.attach o .none)
    ((s.inClass .vanished).foldl (fun acc o => acc.vanish o) s)

theorem State.reResolve_eq (s : State) : s.reResolve =
    ((s.inClass .moved).foldl (fun acc o => acc.moveOutput o) s.detached.release).serveWaiting := rfl

theorem State.detached_nodup (s : State) : (s.inClass .vanished ++ s.inClass .moved).Nodup := by
  refine List.nodup_append'.2 ⟨s.inClass_nodup _, s.inClass_nodup _, fun o hv hm => ?_⟩
  cases (State.mem_inClass.1 hv).symm.trans (State.mem_inClass.1 hm)

theorem State.detached_ou (s : State) (o : OutputId) : s.detached.ou[o] =
    match s.commitClass o with
    | some .vanished => { s.ou[o] with channel := none, attachment := .none }
    | some .moved => { s.ou[o] with attachment := .none }
    | _ => s.ou[o] := by
  rw [State.detached, State.foldl_attach_ou .none s.detached_nodup, State.foldl_vanish_ou (s.inClass_nodup _)]
  simp only [List.mem_append, State.mem_inClass]
  cases hclass : s.commitClass o with
  | none => simp
  | some k => cases k <;> simp

theorem State.detached_frame (s : State) : s.detached.tp = s.tp ∧ s.detached.cm = s.cm ∧ s.detached.pins = s.pins ∧
    s.detached.phase = s.phase := by
  rw [State.detached, State.foldl_attach_rest, State.foldl_vanish_rest]
  exact ⟨rfl, rfl, rfl, rfl⟩

/-! ### The classes of R53 -/

/-- What a class says of its output. -/
theorem State.commitClass_iff (o : OutputId) (s : State) :
    (s.commitClass o = none ↔ ¬(s.ou[o].mode = .active ∧ s.ou[o].channel ≠ none)) ∧
    (s.commitClass o = some .vanished ↔ s.ou[o].mode = .active ∧ s.ou[o].channel ≠ none ∧ s.entryOf o = none) ∧
    (s.commitClass o = some .moved ↔ s.ou[o].mode = .active ∧ ∃ e u sl, s.entryOf o = some e ∧
      s.ou[o].attachment = .tuner u sl ∧ ¬(s.tp.tuners[u].carrier = some e.carrier ∧ sl = e.slot)) := by
  unfold State.commitClass State.entryOf State.isActive
  cases s.ou[o].mode with
  | standby => simp
  | active =>
    cases s.ou[o].channel with
    | none => simp
    | some ch =>
      cases hresolve : s.cm.committed.resolve ch with
      | none => simp [hresolve]
      | some e =>
        cases s.ou[o].attachment with
        | none => simp [hresolve]
        | waiting => simp [hresolve]
        | tuner u sl =>
          simp only [hresolve]
          by_cases hkept : s.tp.tuners[u].carrier = some e.carrier ∧ sl = e.slot
          · rw [if_pos hkept]
            refine ⟨by simp, by simp, iff_of_false nofun ?_⟩
            rintro ⟨-, _, _, _, ⟨⟩, ⟨⟩, hno⟩
            exact hno hkept
          · rw [if_neg hkept]
            exact ⟨by simp, by simp, iff_of_true rfl ⟨trivial, e, u, sl, rfl, rfl, hkept⟩⟩

/-- An output outside the moved and vanished classes stands. -/
theorem State.detached_stands (hvanished : s.commitClass o ≠ some .vanished) (hmoved : s.commitClass o ≠ some .moved) :
    s.detached.ou[o] = s.ou[o] := by
  rw [State.detached_ou]
  split
  · exact absurd ‹_› hvanished
  · exact absurd ‹_› hmoved
  · rfl

/-- One in those classes has no tuner. -/
theorem State.detached_none (h : s.commitClass o = some .vanished ∨ s.commitClass o = some .moved) :
    s.detached.ou[o].attachment = .none := by
  rw [State.detached_ou]
  obtain hclass | hclass := h <;> rw [hclass]

theorem State.detached_mode (o : OutputId) (s : State) : s.detached.ou[o].mode = s.ou[o].mode := by
  rw [State.detached_ou]
  split <;> rfl

theorem State.detached_channel (o : OutputId) (s : State) : s.detached.ou[o].channel =
    if s.commitClass o = some .vanished then none else s.ou[o].channel := by
  rw [State.detached_ou]
  split_ifs with hclass
  · rw [hclass]
  · split
    · exact absurd ‹_› hclass
    · rfl
    · rfl

/-- The channels of the vanished gone, the outputs need what they needed. -/
theorem State.detached_wants (s : State) : s.detached.wants = s.wants := by
  funext o
  unfold State.wants
  rw [State.detached_mode]
  split_ifs with hactive
  · by_cases hclass : s.commitClass o = some .vanished
    · obtain ⟨-, -, hnone⟩ := (s.commitClass_iff o).2.1.1 hclass
      rw [State.entryOf, State.detached_channel, if_pos hclass, hnone]
    · exact State.entryOf_congr (by rw [State.detached_channel, if_neg hclass]) s.detached_frame.2.1
  · rfl

/-- An output with a tuner, or waiting, is ACTIVE with a channel (R44). -/
theorem State.Sound.of_att (h : s.Sound) (hatt : s.ou[o].attachment ≠ .none) :
    s.ou[o].mode = .active ∧ s.ou[o].channel ≠ none := by
  obtain ⟨e, he⟩ : ∃ e, s.wants o = some e :=
    Option.ne_none_iff_exists'.1 fun hnone => hatt (h.seated.att_none hnone)
  unfold State.wants State.entryOf at he
  split_ifs at he with hactive
  refine ⟨hactive, fun hch => ?_⟩
  rw [hch] at he
  cases he

section

variable (h : s.Sound) (hou : y.ou = s.ou)
include h hou

/-- An output that waits, its channel still in the map, waits on after the detachment. -/
theorem State.Sound.stays_waiting (hwaits : s.ou[o].attachment = .waiting) (he : y.wants o = some e) :
    y.detached.ou[o] = s.ou[o] := by
  obtain ⟨hactive, -⟩ := h.of_att (o := o) (by rw [hwaits]; nofun)
  rw [← hou] at hactive
  rw [State.wants_active hactive] at he
  obtain ⟨-, hvanished_iff, hmoved_iff⟩ := y.commitClass_iff o
  rw [State.detached_stands (fun hclass => ?_) fun hclass => ?_, hou]
  · obtain ⟨-, -, hnone⟩ := hvanished_iff.1 hclass
    cases hnone.symm.trans he
  · obtain ⟨-, x, w, sl', -, hatt, -⟩ := hmoved_iff.1 hclass
    rw [hou, hwaits] at hatt
    cases hatt

theorem State.Sound.waiting_kept (hwaits : y.detached.ou[o].attachment = .waiting) :
    s.ou[o].attachment = .waiting ∧ ∃ e, y.wants o = some e := by
  have hvanished : y.commitClass o ≠ some .vanished := fun hclass => by
    cases (State.detached_none (.inl hclass)).symm.trans hwaits
  have hmoved : y.commitClass o ≠ some .moved := fun hclass => by
    cases (State.detached_none (.inr hclass)).symm.trans hwaits
  rw [State.detached_stands hvanished hmoved, hou] at hwaits
  obtain ⟨hactive, hch⟩ := h.of_att (o := o) (by rw [hwaits]; nofun)
  rw [← hou] at hactive hch
  refine ⟨hwaits, Option.ne_none_iff_exists'.1 fun hnone => hvanished ?_⟩
  rw [State.wants_active hactive] at hnone
  exact (y.commitClass_iff o).2.1.2 ⟨hactive, hch, hnone⟩

variable (htp : y.tp = s.tp)
include htp

/-- An output that is still on a tuner after the detachment is on its channel's, under the new map. -/
theorem State.Sound.kept_seat {sl : ServiceSlot} (hseat : y.detached.ou[o].attachment = .tuner u sl) :
    s.ou[o].attachment = .tuner u sl ∧ ∃ e, y.wants o = some e ∧ sl = e.slot ∧ s.tp.tuners[u].carrier = some e.carrier := by
  have hvanished : y.commitClass o ≠ some .vanished := fun hclass => by
    cases (State.detached_none (.inl hclass)).symm.trans hseat
  have hmoved : y.commitClass o ≠ some .moved := fun hclass => by
    cases (State.detached_none (.inr hclass)).symm.trans hseat
  rw [State.detached_stands hvanished hmoved, hou] at hseat
  obtain ⟨hactive, hch⟩ := h.of_att (o := o) (by rw [hseat]; nofun)
  rw [← hou] at hactive hch
  obtain ⟨-, hvanished_iff, hmoved_iff⟩ := y.commitClass_iff o
  obtain ⟨e, he⟩ := Option.ne_none_iff_exists'.1 fun hnone => hvanished (hvanished_iff.2 ⟨hactive, hch, hnone⟩)
  have hkept : y.tp.tuners[u].carrier = some e.carrier ∧ sl = e.slot := by
    by_contra hno
    exact hmoved (hmoved_iff.2 ⟨hactive, e, u, sl, he, by rw [hou]; exact hseat, hno⟩)
  rw [htp] at hkept
  exact ⟨hseat, e, (State.wants_active hactive).trans he, hkept.2, hkept.1⟩

/-- And an output that is on its channel's tuner under the new map stands. -/
theorem State.Sound.stays_seated {sl : ServiceSlot} (hseat : s.ou[o].attachment = .tuner u sl) (he : y.wants o = some e)
    (hcarrier : s.tp.tuners[u].carrier = some e.carrier) (hslot : sl = e.slot) : y.detached.ou[o] = s.ou[o] := by
  obtain ⟨hactive, -⟩ := h.of_att (o := o) (by rw [hseat]; nofun)
  rw [← hou] at hactive
  rw [State.wants_active hactive] at he
  obtain ⟨-, hvanished_iff, hmoved_iff⟩ := y.commitClass_iff o
  rw [State.detached_stands (fun hclass => ?_) fun hclass => ?_, hou]
  · obtain ⟨-, -, hnone⟩ := hvanished_iff.1 hclass
    cases hnone.symm.trans he
  · obtain ⟨-, x, w, sl', hx, hatt, hno⟩ := hmoved_iff.1 hclass
    obtain rfl : e = x := Option.some.inj (he.symm.trans hx)
    rw [hou] at hatt
    obtain ⟨rfl, rfl⟩ := Attachment.tuner.inj (hseat.symm.trans hatt)
    rw [htp] at hno
    exact hno ⟨hcarrier, hslot⟩

theorem State.Sound.detached_pool : y.detached.Seated y.wants := by
  have htuners : y.detached.tp = s.tp := y.detached_frame.1.trans htp
  refine ⟨fun u => ?_, fun u => ?_, fun u w => ?_, fun o u sl ho => ?_, fun o ho => ?_⟩
  · rw [htuners]
    exact h.seated.idle u
  · rw [htuners]
    exact h.seated.busy u
  · rw [htuners]
    exact h.seated.apart u w
  · obtain ⟨hseat, e, he, hslot, hcarrier⟩ := h.kept_seat hou htp ho
    rw [htuners]
    exact ⟨(h.seated.seats o u sl hseat).1, e, he, hslot, hcarrier⟩
  · obtain ⟨hwaits, e, he⟩ := h.waiting_kept hou ho
    have hwants := congrFun y.detached_wants o
    have hactive : y.detached.ou[o].mode = .active := by
      rw [State.detached_mode, hou]
      exact (h.of_att (by rw [hwaits]; nofun)).1
    rw [State.wants_active hactive, he] at hwants
    exact ⟨e, he, hwants⟩

end

/-! ### The moved outputs served (R54 step 3) -/

theorem State.moveOutput_eq (he : s.entryOf o = some e) : s.moveOutput o = s.allocateOrWait o e := by
  simp only [State.moveOutput, he]

/-- Each output of the list needs a tuner and has none. -/
def State.Homeless (need : OutputId → Option MapEntry) (s : State) (l : List OutputId) : Prop :=
  ∀ o ∈ l, s.ou[o].attachment = .none ∧ ∃ e, need o = some e ∧ s.entryOf o = some e

theorem State.foldl_moveOutput {l : List OutputId} (nodup : l.Nodup) (k : s.Seated need) (manned : s.Manned)
    (hl : s.Homeless need l) :
    State.Moves need s (l.foldl (fun acc o => acc.moveOutput o) s) ∧ (l.foldl (fun acc o => acc.moveOutput o) s).Manned ∧
      ∀ o ∈ l, (l.foldl (fun acc o => acc.moveOutput o) s).ou[o].attachment ≠ .none := by
  induction l generalizing s with
  | nil => exact ⟨.refl, manned, nofun⟩
  | cons o l ih =>
    obtain ⟨hno, hnodup⟩ := List.nodup_cons.1 nodup
    obtain ⟨⟨hnone, e, hneed, hentry⟩, hrest⟩ := List.forall_mem_cons.1 hl
    obtain ⟨hmoves, hmanned, -, hplaced⟩ := State.allocateOrWait_free k manned
      (fun u sl hatt => by cases hnone.symm.trans hatt) hneed hentry
    rw [← State.moveOutput_eq hentry] at hmoves hmanned hplaced
    have hnext : (s.moveOutput o).Homeless need l := fun p hp => by
      obtain ⟨hpnone, x, hpneed, hpentry⟩ := hrest p hp
      refine ⟨?_, x, hpneed, (State.Allots.entryOf (State.Moves.allots hmoves) p).trans hpentry⟩
      rw [State.moveOutput_eq hentry,
        State.allocateOrWait_stays o e s p (ne_of_mem_of_not_mem hp hno) (by rw [hpnone]; nofun), hpnone]
    obtain ⟨hmoves', hmanned', hserved⟩ := ih hnodup (State.Moves.seated hmoves k) hmanned hnext
    have hseated : (s.moveOutput o).ou[o].attachment ≠ .none := by
      obtain ⟨u, hu⟩ | ⟨hw, -⟩ := hplaced
      · rw [hu]; nofun
      · rw [hw]; nofun
    exact ⟨hmoves.trans hmoves', hmanned', List.forall_mem_cons.2 ⟨State.Moves.att_ne_none hmoves' hseated, hserved⟩⟩

/-! ### The whole of a re-resolution (R54) -/

theorem State.Allots.wants (h : s.Allots t) : t.wants = s.wants := by
  funext o
  rw [State.wants, State.wants, (h.seats o).1, h.entryOf]

theorem State.detached_entryOf (hmoved : s.commitClass o = some .moved) : s.detached.entryOf o = s.entryOf o := by
  refine State.entryOf_congr ?_ s.detached_frame.2.1
  rw [State.detached_channel, if_neg (by rw [hmoved]; nofun)]

theorem State.reResolve_homeless (s : State) : s.detached.release.Homeless s.wants (s.inClass .moved) := by
  intro o ho
  have hclass := State.mem_inClass.1 ho
  obtain ⟨hactive, e, -, -, he, -⟩ := (s.commitClass_iff o).2.2.1 hclass
  have hnone := State.detached_none (.inr hclass)
  obtain ⟨p, hp⟩ := exists_ne o
  refine ⟨?_, e, (State.wants_active hactive).trans he, ?_⟩
  · rw [State.release_stays p s.detached o hp.symm (by rw [hnone]; nofun), hnone]
  · rw [(State.release_allots _).entryOf, State.detached_entryOf hclass, he]

section

variable (h : s.Sound) (hou : y.ou = s.ou) (htp : y.tp = s.tp)
include h hou htp

/-- After the detachment, a re-resolution is moves of the arbiter that leave every output with its need in its
place, and nobody waiting that could be served. -/
theorem State.Sound.reResolve : State.Moves y.wants y.detached.release y.reResolve ∧ y.reResolve.Manned ∧
    y.reResolve.Served y.wants ∧ ∀ o, y.wants o ≠ none → y.reResolve.ou[o].attachment ≠ .none := by
  have hpool := h.detached_pool hou htp
  obtain ⟨hmoves, hmanned, -⟩ := State.release_moves hpool
  have hreleased := State.Moves.seated hmoves hpool
  obtain ⟨hmoves', hmanned', hmoved⟩ :=
    State.foldl_moveOutput (y.inClass_nodup .moved) hreleased hmanned y.reResolve_homeless
  obtain ⟨hseats, hserved⟩ := State.serveWaiting_seats (State.Moves.seated hmoves' hreleased) hmanned'
  have hlast := State.Seats.moves hseats
  rw [y.reResolve_eq]
  refine ⟨hmoves'.trans hlast, State.Seats.manned hseats hmanned', hserved, fun o hneed => ?_⟩
  by_cases hclass : y.commitClass o = some .moved
  · exact State.Moves.att_ne_none hlast (hmoved o (State.mem_inClass.2 hclass))
  · refine State.Moves.att_ne_none ((hmoves.trans hmoves').trans hlast) ?_
    have hactive : y.ou[o].mode = .active := by
      by_contra hno
      exact hneed (if_neg hno)
    rw [State.wants_active hactive] at hneed
    have hch : y.ou[o].channel ≠ none := fun hno => hneed (by rw [State.entryOf, hno])
    rw [State.detached_stands (fun hvanished => hneed ((y.commitClass_iff o).2.1.1 hvanished).2.2) hclass, hou]
    rw [hou] at hactive hch
    refine h.settled o ?_
    rw [State.wants_active hactive]
    exact h.resolved o hactive hch

theorem State.Sound.reResolve_moves : State.Moves y.wants y.detached y.reResolve :=
  (State.release_moves (h.detached_pool hou htp)).1.trans (h.reResolve hou htp).1

/-- The pool stays sound, under the new map. -/
theorem State.Sound.reResolve_poolLaw (running : y.phase = .running) : y.reResolve.PoolLaw := by
  obtain ⟨-, hmanned, hserved, hsettled⟩ := h.reResolve hou htp
  have hmoves := h.reResolve_moves hou htp
  have hallots := State.Moves.allots hmoves
  have hmode (o : OutputId) : y.reResolve.ou[o].mode = s.ou[o].mode := by
    rw [(hallots.seats o).1, State.detached_mode, hou]
  refine (State.Moves.seated hmoves (h.detached_pool hou htp)).poolLaw hmanned hserved (fun o => ?_) hsettled
    (fun o hactive hch hno => ?_) (fun o p => ?_) ?_
  · rw [hallots.wants, State.detached_wants]
  · rw [hmode, ← hou] at hactive
    rw [State.wants_active hactive] at hno
    rw [(hallots.seats o).2, State.detached_channel] at hch
    split_ifs at hch with hclass
    · exact hch rfl
    · exact hclass ((y.commitClass_iff o).2.1.2 ⟨hactive, hch, hno⟩)
  · rw [hmode, hmode]
    exact h.modes o p
  · rw [y.reResolve_rewires.rest]
    exact running

/-- The transfers follow the tuners. -/
theorem State.Sound.reResolve_tuned : y.Tuned y.reResolve := by
  obtain ⟨htp', -, hpins, -⟩ := y.detached_frame
  exact State.Moves.tuned (h.reResolve_moves hou htp) (.of_same (by rw [htp']) hpins (by rw [htp']))

end

end

end Sys2Proof.Machine

/-! PROOF. What a commit makes of each room: O46. -/

namespace Sys2Proof.Machine

section

variable {s t x y : State} {o p : OutputId} {u w : TunerId} {e : MapEntry} {c ch : Nat}

/-! ### Tuners that unchanged rooms keep (R54) -/

/-- Some room's channel keeps carrier and slot under the new map of `y`, on the tuner it is on. -/
def State.KeptBy (s y : State) (u : TunerId) : Prop :=
  ∃ (p : OutputId) (x : MapEntry), y.wants p = some x ∧ s.tp.tuners[u].carrier = some x.carrier ∧
    s.ou[p].attachment = .tuner u x.slot

/-- Only one output can wait: three others watch the tuners. -/
theorem State.Sound.waiting_unique (h : s.Sound) (ho : s.ou[o].attachment = .waiting)
    (hp : s.ou[p].attachment = .waiting) : p = o := by
  obtain ⟨e, he, -⟩ := h.seated.waits o ho
  have hwatched (u : TunerId) : ∃ q : OutputId, s.ou[q].attachment.tuner? = some u := by
    obtain ⟨q, hq⟩ := not_forall.1 (h.manned u (h.served o ho e he u).1)
    obtain ⟨sl, hsl⟩ := not_forall_not.1 hq
    exact ⟨q, by rw [hsl]; rfl⟩
  choose f hf using hwatched
  have hseat {q : OutputId} (hq : s.ou[q].attachment = .waiting) (u : TunerId) : f u ≠ q := by
    rintro rfl
    have hu := hf u
    rw [hq] at hu
    cases hu
  by_contra hne
  have hinjective : Function.Injective fun u : TunerId => (⟨f u, hseat ho u, hseat hp u⟩ : { q // q ≠ o ∧ q ≠ p }) := by
    intro u v huv
    have hsame : f u = f v := congrArg Subtype.val huv
    have hu := hf u
    rw [hsame, hf v] at hu
    exact (Option.some.inj hu).symm
  have hcard := Fintype.card_le_of_injective _ hinjective
  have htwo : Fintype.card { q : OutputId // q ≠ o ∧ q ≠ p } = 2 := by
    have hpairs : ∀ a b : OutputId, ¬b = a → Fintype.card { q : OutputId // q ≠ a ∧ q ≠ b } = 2 := by decide
    exact hpairs o p hne
  rw [htwo] at hcard
  simp at hcard

/-- What the pins have done, an allocation does not undo. -/
theorem State.Allots.drives {ev : PinEvent} (h : x.Allots t) (hd : y.Drives x ev) : y.Drives t ev := by
  obtain ⟨l, hl, hmem⟩ := hd
  obtain ⟨w, hw, -⟩ := h.pins
  exact ⟨l ++ w, by rw [hw, ← List.append_assoc, ← hl], List.mem_append_left _ hmem⟩

theorem State.Drives.finish {old : State} {os : List OutputId} {ev : PinEvent} (h : y.Drives x ev) :
    y.Drives (State.finish old os x) ev := by
  obtain ⟨l, hl, hmem⟩ := h
  obtain ⟨w, hw, -⟩ := State.finish_events old x os
  exact ⟨l ++ w, by rw [hw, hl, List.append_assoc], List.mem_append_left _ hmem⟩

section

variable (h : s.Sound) (hou : y.ou = s.ou)
include h hou

/-- The room that waits is alone on the list after the detachment. -/
theorem State.Sound.detached_first (hwaits : s.ou[o].attachment = .waiting) (he : y.wants o = some e) :
    y.detached.idleEmptied.waitingList.head? = some o := by
  have hatt : y.detached.idleEmptied.ou = y.detached.ou := by rw [State.idleEmptied_rest]
  have honly {p : OutputId} (hp : p ∈ y.detached.idleEmptied.waitingList) : p = o := by
    have hpw := beq_iff_eq.1 (List.mem_filter.1 hp).2
    rw [hatt] at hpw
    exact h.waiting_unique hwaits (h.waiting_kept hou hpw).1
  have hmem : o ∈ y.detached.idleEmptied.waitingList := by
    refine List.mem_filter.2 ⟨State.mem_allOutputs o, beq_iff_eq.2 ?_⟩
    rw [hatt, h.stays_waiting hou hwaits he]
    exact hwaits
  cases hlist : y.detached.idleEmptied.waitingList with
  | nil =>
    rw [hlist] at hmem
    cases hmem
  | cons p l => exact congrArg some (honly (hlist ▸ List.mem_cons_self ..))

variable (htp : y.tp = s.tp)
include htp

theorem State.Sound.kept_vacant_iff (u : TunerId) : y.detached.Vacant u ↔ ¬s.KeptBy y u := by
  constructor
  · rintro hvacant ⟨p, x, hx, hcarrier, hseat⟩
    refine hvacant p x.slot ?_
    rw [h.stays_seated hou htp hseat hx hcarrier rfl]
    exact hseat
  · intro hno p sl hp
    obtain ⟨hseat, x, hx, rfl, hcarrier⟩ := h.kept_seat hou htp hp
    exact hno ⟨p, x, hx, hcarrier, hseat⟩

/-- An unchanged room keeps its tuner, and the tuner its record. -/
theorem State.Sound.keeps_seat {sl : ServiceSlot} (hseat : s.ou[o].attachment = .tuner u sl) (he : y.wants o = some e)
    (hcarrier : s.tp.tuners[u].carrier = some e.carrier) (hslot : sl = e.slot) :
    y.reResolve.ou[o].attachment = .tuner u sl ∧ y.reResolve.tp.tuners[u] = s.tp.tuners[u] := by
  have hdetached : y.detached.ou[o].attachment = .tuner u sl := by
    rw [h.stays_seated hou htp hseat he hcarrier hslot]
    exact hseat
  obtain ⟨hatt, hrecord⟩ := State.Moves.keeps (h.reResolve_moves hou htp) hdetached
  exact ⟨hatt, by rw [hrecord, y.detached_frame.1, htp]⟩

theorem State.Sound.kept_record (hkept : s.KeptBy y u) : y.reResolve.tp.tuners[u] = s.tp.tuners[u] := by
  obtain ⟨p, x, hx, hcarrier, hseat⟩ := hkept
  exact (h.keeps_seat hou htp hseat hx hcarrier rfl).2

/-- A room whose carrier some unchanged room's tuner is on is on that tuner in the end (R33 case 1, R38). -/
theorem State.Sound.joins_kept (hkept : s.KeptBy y u) (he : y.wants o = some e)
    (hcarrier : s.tp.tuners[u].carrier = some e.carrier) : y.reResolve.ou[o].attachment = .tuner u e.slot := by
  obtain ⟨-, hmanned, hserved, hsettled⟩ := h.reResolve hou htp
  have hseated := State.Moves.seated (h.reResolve_moves hou htp) (h.detached_pool hou htp)
  have hrecord := h.kept_record hou htp hkept
  obtain ⟨p, x, hx, hcarrier', hseat⟩ := hkept
  have hbusy : y.reResolve.tp.tuners[u].state ≠ .idle := by
    rw [hrecord]
    exact (h.seated.seats p u x.slot hseat).1
  cases hatt : y.reResolve.ou[o].attachment with
  | none => exact absurd hatt (hsettled o (by rw [he]; nofun))
  | waiting =>
    have hno := (hserved o hatt e he u).2
    rw [hrecord] at hno
    exact absurd hcarrier hno
  | tuner w sl =>
    obtain ⟨hw, e', he', rfl, hwc⟩ := hseated.seats o w sl hatt
    obtain rfl : e = e' := Option.some.inj (he.symm.trans he')
    have hwu : w = u := by
      by_contra hne
      exact hseated.apart w u hne hw hbusy (hwc.trans (by rw [hrecord, hcarrier]))
    rw [hwu]

/-- Where every tuner is kept, and none is on its carrier, a room waits (R36). -/
theorem State.Sound.waits_on (he : y.wants o = some e) (hall : ∀ u, s.KeptBy y u)
    (hunmet : ∀ u, s.KeptBy y u → s.tp.tuners[u].carrier ≠ some e.carrier) :
    y.reResolve.ou[o].attachment = .waiting := by
  obtain ⟨-, -, -, hsettled⟩ := h.reResolve hou htp
  have hseated := State.Moves.seated (h.reResolve_moves hou htp) (h.detached_pool hou htp)
  cases hatt : y.reResolve.ou[o].attachment with
  | none => exact absurd hatt (hsettled o (by rw [he]; nofun))
  | waiting => rfl
  | tuner w sl =>
    obtain ⟨-, e', he', -, hwc⟩ := hseated.seats o w sl hatt
    obtain rfl : e = e' := Option.some.inj (he.symm.trans he')
    rw [h.kept_record hou htp (hall w)] at hwc
    exact absurd hwc (hunmet w (hall w))

/-- The tuners after the detachment: those not kept go IDLE, where one waits (R31). -/
theorem State.Sound.idleEmptied_kept (hbusy : ∀ u : TunerId, s.tp.tuners[u].state ≠ .idle) (u : TunerId) :
    (s.KeptBy y u → y.detached.idleEmptied.tp.tuners[u] = s.tp.tuners[u]) ∧
      (¬s.KeptBy y u → y.detached.idleEmptied.tp.tuners[u] = .idle) := by
  have hrecord : y.detached.tp = s.tp := y.detached_frame.1.trans htp
  have hemptied : y.detached.emptied u = true ↔ ¬s.KeptBy y u := by
    rw [State.emptied_iff, h.kept_vacant_iff hou htp, hrecord]
    exact and_iff_right (hbusy u)
  rw [State.idleEmptied_tuner, hrecord]
  exact ⟨fun hkept => if_neg fun he => hemptied.1 he hkept, fun hno => if_pos (hemptied.2 hno)⟩

/-- A waiting room whose carrier no kept tuner is on has the lowest tuner that is not kept, which starts (R33 case 3,
R37). -/
theorem State.Sound.starts_waiting (hwaits : s.ou[o].attachment = .waiting) (he : y.wants o = some e)
    (hunmet : ∀ u, s.KeptBy y u → s.tp.tuners[u].carrier ≠ some e.carrier) (hu : ¬s.KeptBy y u)
    (hlowest : ∀ w < u, s.KeptBy y w) : y.reResolve.ou[o].attachment = .tuner u e.slot ∧
      y.reResolve.tp.tuners[u] = s.startedOn e.carrier ∧ y.Drives y.reResolve (y.startTransfer u e.carrier) := by
  obtain ⟨x, hx, -⟩ := h.seated.waits o hwaits
  have hbusy (u : TunerId) : s.tp.tuners[u].state ≠ .idle := (h.served o hwaits x hx u).1
  have hkept := h.idleEmptied_kept hou htp hbusy
  have hpool := y.detached.idleEmptied_vacates.seated (h.detached_pool hou htp)
  have hidle : y.detached.idleEmptied.tp.tuners[u].state = .idle := by
    rw [(hkept u).2 hu]
    rfl
  have hnone : y.detached.idleEmptied.Unmet e.carrier := by
    intro w hw
    by_cases hwk : s.KeptBy y w
    · rw [(hkept w).1 hwk]
      exact hunmet w hwk
    · rw [(hkept w).2 hwk] at hw
      exact absurd rfl hw
  have hrelease : y.detached.release = y.detached.idleEmptied.serveWaiting := by
    refine if_pos (List.any_eq_true.2 ⟨u, mem_allTuners u, State.emptied_iff.2 ⟨?_, (h.kept_vacant_iff hou htp u).2 hu⟩⟩)
    rw [y.detached_frame.1, htp]
    exact hbusy u
  have hfree (w : TunerId) (sl : ServiceSlot) : y.detached.idleEmptied.ou[o].attachment ≠ .tuner w sl := by
    rw [State.idleEmptied_rest, h.stays_waiting hou hwaits he, hwaits]
    nofun
  have hrest := State.serveWaiting_head hpool y.detached.idleEmptied_manned hidle
    (fun w hw => by rw [(hkept w).1 (hlowest w hw)]; exact hbusy w) (h.detached_first hou hwaits he) he hnone
  obtain ⟨-, -, hseat, hstarted⟩ := State.start_seats hpool hfree he (hpool.vacant hidle) hnone
  rw [← hrelease] at hrest
  have hmoves := (State.Seats.moves hrest).trans (h.reResolve hou htp).1
  obtain ⟨hatt, hrecord⟩ := State.Moves.keeps hmoves hseat
  have hif : y.detached.idleEmptied.tp.ifKHz = s.tp.ifKHz := by
    rw [State.idleEmptied_rest, y.detached_frame.1, htp]
  have hpins : y.detached.idleEmptied.pins = y.pins := by
    rw [State.idleEmptied_rest]
    exact y.detached_frame.2.2.1
  have hdrives : y.Drives ((y.detached.idleEmptied.attach o (.tuner u e.slot)).acquire u e.carrier)
      (y.startTransfer u e.carrier) := by
    refine ⟨[y.startTransfer u e.carrier], ?_, List.mem_singleton_self _⟩
    have hwave : (y.detached.idleEmptied.attach o (.tuner u e.slot)).pins.wave = y.pins.wave := congrArg Pins.wave hpins
    have hif' : (y.detached.idleEmptied.attach o (.tuner u e.slot)).tp.ifKHz = y.tp.ifKHz := by
      rw [htp]
      exact hif
    rw [State.acquire_wave, hwave, State.startTransfer, hif']
    rfl
  refine ⟨hatt, hrecord.trans (hstarted.trans ?_), ?_⟩
  · simp only [State.startedOn, hif]
  · exact ((State.attachWaiters_allots u e.carrier _).trans (State.Moves.allots hmoves)).drives hdrives

end

/-! ### The whole commit -/

/-- The state in which the outputs are re-resolved: the new map in force, MAP to be written, MAP_COMMITTED latched. -/
def State.committing (m : Lineup) (s : State) : State :=
  (({ s with cm := { committed := m, staging := none } } : State).markDirty .map).latch .mapCommitted

theorem State.commitMap_eq (m : Lineup) (s : State) :
    s.commitMap m = State.finish s s.activeOutputs (s.committing m).reResolve := rfl

/-- In STANDBY a commit re-resolves nothing (R55). -/
theorem State.Sound.reResolve_asleep (h : s.Sound) (hou : y.ou = s.ou) (htp : y.tp = s.tp)
    (hasleep : ∀ o : OutputId, s.ou[o].mode = .standby) : y.reResolve = y := by
  have hclass (k : CommitClass) : y.inClass k = [] := by
    refine List.eq_nil_iff_forall_not_mem.2 fun o ho => ?_
    obtain ⟨hactive, -⟩ := State.channel_of_commitClass (State.mem_inClass.1 ho)
    rw [hou, hasleep o] at hactive
    cases hactive
  have hmanned : y.Manned := by
    simp only [State.Manned, State.Vacant, hou, htp]
    exact h.manned
  have hdetached : y.detached = y := by rw [State.detached, hclass, hclass]; rfl
  rw [y.reResolve_eq, hdetached, hclass, State.release_of_manned hmanned]
  refine State.serveWaiting_of_not_waiting (s := y) fun o ho => ?_
  rw [hou] at ho
  have hactive := (h.of_att (o := o) (by rw [ho]; nofun)).1
  rw [hasleep o] at hactive
  cases hactive

/-- What a commit leaves beside the close of its event. -/
theorem State.Sound.commitMap_retunes (h : s.Sound) (m : Lineup) :
    (({ s with cm := { committed := m, staging := none } } : State).latch .mapCommitted).Retunes (s.commitMap m) := by
  have hrewires := (s.committing m).reResolve_rewires
  have hpasses := (s.committing m).reResolve_clears.passes
  have hretunes := hrewires.retunes hpasses (h.reResolve_tuned (y := s.committing m) rfl rfl) s.activeOutputs
  rw [State.finish_congr (old := s) (old' := s.committing m) rfl rfl, ← State.commitMap_eq] at hretunes
  generalize s.commitMap m = t at hretunes ⊢
  obtain ⟨hcloses, hroutes, htransfers⟩ := hretunes
  refine ⟨State.Dirties.closes ?_ hcloses, hroutes, htransfers⟩
  exact ⟨rfl⟩

/-- The commit's end: what it has to do with the re-resolved state. -/
theorem State.Sound.commitMap_facts (h : s.Sound) (m : Lineup) (running : s.phase = .running) :
    (s.commitMap m).awaitsWrite .map ∧ (∀ o : OutputId, s.ou[o].mode = .active → (s.commitMap m).Evaluated o) ∧
      (s.commitMap m).PoolLaw ∧ (s.commitMap m).ou = (s.committing m).reResolve.ou ∧
      (s.commitMap m).tp = (s.committing m).reResolve.tp ∧
      (∀ o : OutputId, (s.committing m).reResolve.pc.passes[o] = none → (s.commitMap m).pc.passes[o] = none) ∧
      ∀ ev, (s.committing m).Drives (s.committing m).reResolve ev → (s.committing m).Drives (s.commitMap m) ev := by
  obtain ⟨hphase, -, -, hcm, htp, hou, -⟩ := State.finish_frame s s.activeOutputs (s.committing m).reResolve
  have hpasses := (State.finish_closes s s.activeOutputs (s.committing m).reResolve).2.1
  rw [s.commitMap_eq]
  refine ⟨State.awaitsWrite_finish ?_ (by decide), fun o ho => ?_, ?_, hou, htp, fun o hnone => ?_, fun ev hev => hev.finish⟩
  · rw [(s.committing m).reResolve_rewires.rest]
    exact mem_joinDirty.2 (.inl rfl)
  · exact State.finish_evaluated (List.mem_append_right _ (State.mem_activeOutputs.2 ho))
  · exact (h.reResolve_poolLaw (y := s.committing m) rfl rfl running).congr hou htp (by rw [hcm])
      (by rw [hphase]; exact id)
  · exact (hpasses o).elim (fun hkept => hkept.trans hnone) And.left

/-- The tuners kept, by the channels of the rooms that keep them. -/
theorem State.Sound.keptBy_iff (h : s.Sound) (hou : y.ou = s.ou) (u : TunerId) : s.KeptBy y u ↔
    ∃ (p : OutputId) (ch : Nat) (x : MapEntry), s.ou[p].channel = some ch ∧ y.cm.committed.resolve ch = some x ∧ s.tp.tuners[u].carrier = some x.carrier ∧
      s.ou[p].attachment = .tuner u x.slot := by
  refine exists_congr fun p => ⟨?_, ?_⟩
  · rintro ⟨x, hx, hcarrier, hseat⟩
    obtain ⟨hactive, hch⟩ := h.of_att (o := p) (by rw [hseat]; nofun)
    obtain ⟨ch, hch⟩ := Option.ne_none_iff_exists'.1 hch
    rw [State.wants_active (by rw [hou]; exact hactive), State.entryOf, hou, hch] at hx
    exact ⟨ch, x, hch, hx, hcarrier, hseat⟩
  · rintro ⟨ch, x, hch, hx, hcarrier, hseat⟩
    obtain ⟨hactive, -⟩ := h.of_att (o := p) (by rw [hseat]; nofun)
    refine ⟨x, ?_, hcarrier, hseat⟩
    rw [State.wants_active (by rw [hou]; exact hactive), State.entryOf, hou, hch]
    exact hx

theorem Output.eq_of_fields {a b : Output} (hmode : a.mode = b.mode) (hchannel : a.channel = b.channel)
    (hatt : a.attachment = b.attachment) : a = b := by
  cases a
  cases b
  cases hmode
  cases hchannel
  cases hatt
  rfl

section

variable (h : s.Sound) (hou : y.ou = s.ou) (htp : y.tp = s.tp)
include h hou htp

/-- The outputs keep mode and channel, but the vanished lose theirs (R54 step 1). -/
theorem State.Sound.reResolve_seat (o : OutputId) : y.reResolve.ou[o].mode = s.ou[o].mode ∧
    y.reResolve.ou[o].channel = if y.commitClass o = some .vanished then none else s.ou[o].channel := by
  have hallots := State.Moves.allots (h.reResolve_moves hou htp)
  rw [(hallots.seats o).1, (hallots.seats o).2, State.detached_mode, State.detached_channel, hou]
  exact ⟨rfl, rfl⟩

theorem State.Sound.reResolve_seated : y.reResolve.Seated y.wants :=
  State.Moves.seated (h.reResolve_moves hou htp) (h.detached_pool hou htp)

/-- An output with the same attachment, its channel not vanished, stands. -/
theorem State.Sound.reResolve_stands (hclass : y.commitClass o ≠ some .vanished)
    (hatt : y.reResolve.ou[o].attachment = s.ou[o].attachment) : y.reResolve.ou[o] = s.ou[o] := by
  obtain ⟨hmode, hchannel⟩ := h.reResolve_seat hou htp o
  rw [if_neg hclass] at hchannel
  exact Output.eq_of_fields hmode hchannel hatt

/-- An output without a channel stands. -/
theorem State.Sound.reResolve_blank (hch : s.ou[o].channel = none) : y.reResolve.ou[o] = s.ou[o] := by
  have hatt : s.ou[o].attachment = .none := by
    by_contra hsome
    exact (h.of_att hsome).2 hch
  refine h.reResolve_stands hou htp (fun hclass => ?_) ?_
  · have hsome := ((y.commitClass_iff o).2.1.1 hclass).2.1
    rw [hou] at hsome
    exact hsome hch
  · rw [hatt]
    refine (h.reResolve_seated hou htp).att_none ?_
    unfold State.wants State.entryOf
    rw [hou, hch, ite_self]

theorem State.Sound.reResolve_vanished_pass (hactive : s.ou[o].mode = .active) (hch : s.ou[o].channel ≠ none)
    (hno : y.entryOf o = none) : y.reResolve.pc.passes[o] = none := by
  obtain ⟨-, hchannel⟩ := h.reResolve_seat hou htp o
  rw [if_pos ((y.commitClass_iff o).2.1.2 ⟨by rw [hou]; exact hactive, by rw [hou]; exact hch, hno⟩)] at hchannel
  have hpass : y.reResolve.pc.passes[o] = (y.passesKept y.reResolve)[o] := by rw [← y.reResolve_clears.passes]
  rw [hpass]
  refine (Vector.getElem_ofFn _).trans (if_neg fun heq => hch ?_)
  rw [← hou]
  exact heq.symm.trans hchannel

/-- An output whose channel has vanished is left without. -/
theorem State.Sound.reResolve_vanished (hactive : s.ou[o].mode = .active) (hch : s.ou[o].channel ≠ none)
    (hno : y.entryOf o = none) :
    y.reResolve.ou[o] = { mode := .active, channel := none, attachment := .none } := by
  obtain ⟨hmode, hchannel⟩ := h.reResolve_seat hou htp o
  rw [← hou] at hactive hch
  rw [if_pos ((y.commitClass_iff o).2.1.2 ⟨hactive, hch, hno⟩)] at hchannel
  rw [hou] at hactive
  refine Output.eq_of_fields (hmode.trans hactive) hchannel ((h.reResolve_seated hou htp).att_none ?_)
  unfold State.wants
  rw [hno, ite_self]

/-- A room whose channel is in the new map (R53, R54). -/
theorem State.Sound.committed_room (hactive : s.ou[o].mode = .active) (hch : s.ou[o].channel = some ch)
    (he : y.cm.committed.resolve ch = some e) (tou : t.ou = y.reResolve.ou) (ttp : t.tp = y.reResolve.tp)
    (tdrives : ∀ ev, y.Drives y.reResolve ev → y.Drives t ev) :
    t.ou[o].channel = some ch ∧
    (∀ u sl, s.ou[o].attachment = .tuner u sl → s.tp.tuners[u].carrier = some e.carrier → sl = e.slot →
      t.ou[o] = s.ou[o] ∧ t.tp.tuners[u] = s.tp.tuners[u]) ∧
    (∀ u, s.KeptBy y u → s.tp.tuners[u].carrier = some e.carrier →
      t.ou[o].attachment = .tuner u e.slot ∧ t.tp.tuners[u] = s.tp.tuners[u]) ∧
    (s.ou[o].attachment = .waiting → (∀ u, s.KeptBy y u → s.tp.tuners[u].carrier ≠ some e.carrier) →
      (∀ u, ¬s.KeptBy y u → (∀ w < u, s.KeptBy y w) →
        t.ou[o].attachment = .tuner u e.slot ∧ t.tp.tuners[u] = s.startedOn e.carrier ∧
          y.Drives t (y.startTransfer u e.carrier)) ∧
      ((∀ u, s.KeptBy y u) → t.ou[o] = s.ou[o])) := by
  have hentry : y.entryOf o = some e := by rw [State.entryOf, hou, hch]; exact he
  have hwant : y.wants o = some e := by rw [State.wants_active (by rw [hou]; exact hactive), hentry]
  have hclass : y.commitClass o ≠ some .vanished := fun hclass => by
    cases ((y.commitClass_iff o).2.1.1 hclass).2.2.symm.trans hentry
  rw [tou, ttp]
  refine ⟨?_, fun u sl hseat hcarrier hslot => ?_, fun u hkept hcarrier => ?_, fun hwaits hunmet =>
    ⟨fun u hu hlowest => ?_, fun hall => ?_⟩⟩
  · rw [(h.reResolve_seat hou htp o).2, if_neg hclass, hch]
  · obtain ⟨hatt, hrecord⟩ := h.keeps_seat hou htp hseat hwant hcarrier hslot
    exact ⟨h.reResolve_stands hou htp hclass (hatt.trans hseat.symm), hrecord⟩
  · exact ⟨h.joins_kept hou htp hkept hwant hcarrier, h.kept_record hou htp hkept⟩
  · obtain ⟨hatt, hrecord, hdrives⟩ := h.starts_waiting hou htp hwaits hwant hunmet hu hlowest
    exact ⟨hatt, hrecord, tdrives _ hdrives⟩
  · exact h.reResolve_stands hou htp hclass ((h.waits_on hou htp hwant hall hunmet).trans hwaits.symm)

end

end

/-- Settles O46: the re-resolution as moves from the pool with the moved and vanished outputs detached. -/
theorem commitsReplaceTheMapAndReResolve : Obligations.CommitsReplaceTheMapAndReResolve := by
  intro s body g hands hg hmap hpool hnew hall
  obtain ⟨hver, hcount, -⟩ := readSegment_fits hg
  have hsound : s.packetGone.Sound := State.poolLaw_iff.1 hpool
  have hcomplete : (g.staged s.cm.staging).complete = true := (s.staged_complete_iff g).2 hall
  have hcommits : exec .map s = .next (s.packetGone.commitMap (g.staged s.cm.staging).lineup) := by
    rw [hands.map hg, State.takeSegment, if_neg (show ¬s.packetGone.cm.committed.version = some g.version from hnew)]
    exact congrArg Host.Outcome.next (if_pos hcomplete)
  have hversion : (g.staged s.cm.staging).lineup.version = some g.version :=
    congrArg some (collectionFor_fields _ _ _).1
  have hresolve (ch : Nat) : (g.staged s.cm.staging).lineup.resolve ch =
      (g.found (s.collected g).2 ch).map StagedEntry.entry := by
    rw [← State.find?_staged hmap hver hcount]
    exact List.find?_map ..
  generalize (g.staged s.cm.staging).lineup = m at hcommits hversion hresolve
  have hretunes := hsound.commitMap_retunes m
  obtain ⟨hwritten, hdecided, hlaw, hou, htp, hpasses, hdrives⟩ := hsound.commitMap_facts m hands.1
  generalize s.packetGone.commitMap m = t at *
  refine ⟨t, m, hcommits, hretunes, hversion, hresolve, hwritten, hlaw, fun o ho => ?_, fun hasleep => ?_,
    fun o hactive => ⟨fun hch => ?_, fun ch hch => ⟨fun hgone => ?_, fun e he => ?_⟩⟩⟩
  · rw [hou] at ho
    exact hdecided o ((hsound.reResolve_seat (y := s.packetGone.committing m) rfl rfl o).1.symm.trans ho)
  · rw [hsound.reResolve_asleep (y := s.packetGone.committing m) rfl rfl hasleep] at hou htp
    exact ⟨hou, htp⟩
  · rw [hou]
    exact hsound.reResolve_blank (y := s.packetGone.committing m) rfl rfl hch
  · have hsome : s.packetGone.ou[o].channel ≠ none := fun hno => by cases hch.symm.trans hno
    have hno : (s.packetGone.committing m).entryOf o = none := by
      have hch' : (s.packetGone.committing m).ou[o].channel = some ch := hch
      rw [State.entryOf, hch']
      exact hgone
    rw [hou]
    exact ⟨hpasses o (hsound.reResolve_vanished_pass rfl rfl hactive hsome hno),
      hsound.reResolve_vanished rfl rfl hactive hsome hno⟩
  · have hroom := hsound.committed_room (y := s.packetGone.committing m) rfl rfl hactive hch he hou htp hdrives
    simp only [hsound.keptBy_iff (y := s.packetGone.committing m) rfl] at hroom
    exact hroom

end Sys2Proof.Machine

/-! PROOF. The pool stays sound under every command: O6. -/

namespace Sys2Proof.Machine

section

variable {c : Instr} {s t x : State} {o p : OutputId} {u w : TunerId} {e : MapEntry} {ch : Nat}

/-! ### The pool asleep (R35, R44) -/

/-- Every output is in standby and every tuner IDLE. -/
structure State.Asleep (s : State) : Prop where
  modes : ∀ o : OutputId, s.ou[o].mode = .standby
  atts : ∀ o : OutputId, s.ou[o].attachment = .none
  tuners : ∀ u : TunerId, s.tp.tuners[u] = .idle

theorem State.Asleep.poolLaw (h : s.Asleep) : s.PoolLaw := by
  have hno {u : TunerId} : s.tp.tuners[u].state = .idle := by rw [h.tuners]; rfl
  refine State.poolLaw_iff.2 ⟨⟨fun u _ => h.tuners u, fun u hu => absurd hno hu, fun u _ _ hu => absurd hno hu,
    fun o u sl ho => ?_, fun o ho => ?_⟩, fun u hu => absurd hno hu, fun o ho => ?_,
    fun o hwant => absurd (State.wants_standby (h.modes o)) hwant, fun o hactive => ?_,
    fun o p => (h.modes o).trans (h.modes p).symm, fun _ => h.modes⟩
  · cases (h.atts o).symm.trans ho
  · cases (h.atts o).symm.trans ho
  · cases (h.atts o).symm.trans ho
  · cases (h.modes o).symm.trans hactive

theorem State.Sound.asleep (h : s.Sound) (hmodes : ∀ o : OutputId, s.ou[o].mode = .standby) : s.Asleep := by
  have hatts (o : OutputId) : s.ou[o].attachment = .none :=
    h.seated.att_none (State.wants_standby (hmodes o))
  refine ⟨hmodes, hatts, fun u => h.seated.idle u ?_⟩
  by_contra hbusy
  exact h.manned u hbusy fun o sl ho => by cases (hatts o).symm.trans ho

theorem State.Asleep.of_eq (h : s.Asleep) (hou : t.ou = s.ou) (htp : t.tp.tuners = s.tp.tuners) : t.Asleep :=
  ⟨fun o => by rw [hou]; exact h.modes o, fun o => by rw [hou]; exact h.atts o, fun u => by rw [htp]; exact h.tuners u⟩

theorem State.sleepAll_asleep (s : State) : s.sleepAll.Asleep :=
  ⟨fun o => by rw [State.sleepAll_ou], fun o => by rw [State.sleepAll_ou], fun u => s.sleepAll_tuner u⟩

theorem State.Fresh.asleep (h : s.Fresh t) : t.Asleep := by
  have hreset : State.reset.Asleep := ⟨by decide, by decide, by decide⟩
  exact hreset.of_eq h.ou (by rw [h.tp])

theorem State.PoolLaw.of_same (k : s.PoolLaw) (h : t.ou = s.ou ∧ t.tp = s.tp ∧ t.cm = s.cm ∧ t.phase = s.phase) :
    t.PoolLaw := by
  obtain ⟨hou, htp, hcm, hphase⟩ := h
  exact k.congr hou htp (by rw [hcm]) (by rw [hphase]; exact id)

/-! ### A tuner that moves (sections 2.3 and 2.4) -/

/-- A tuner at work stays at work on its carrier, with that carrier's nominal divisor. -/
structure Tuner.Works (ifKHz : Nat) (x y : Tuner) : Prop where
  before : x.state ≠ .idle
  after : y.state ≠ .idle
  carrier : y.carrier = x.carrier
  n0 : (x.n0 = x.carrier.map fun c => nominalDivisor c ifKHz) → y.n0 = y.carrier.map fun c => nominalDivisor c ifKHz

theorem Tuner.Moves.works {x y : Tuner} (h : x.Moves y) (f : Nat) : x.Works f y := by
  cases h with
  | lock h => exact ⟨by rw [h]; nofun, nofun, rfl, id⟩
  | unlock h => exact ⟨by rw [h]; nofun, nofun, rfl, id⟩
  | gateLock c h => exact ⟨by rw [h]; nofun, nofun, rfl, id⟩

theorem Tuner.Faults.works {x y : Tuner} (h : x.Faults y) (f : Nat) : x.Works f y := by
  cases h with
  | settle h => exact ⟨by rw [h]; nofun, nofun, rfl, id⟩
  | lost h => exact ⟨by rw [h]; nofun, nofun, rfl, id⟩
  | gate c r h => exact ⟨by rw [h]; nofun, nofun, rfl, id⟩

theorem Tuner.Loads.works {x y : Tuner} {f : Nat} (h : x.Loads f y) : x.Works f y := by
  cases h with
  | correct c k h => exact ⟨by rw [h]; nofun, nofun, rfl, id⟩
  | retry c h carrier => exact ⟨by rw [h]; nofun, nofun, carrier.symm, fun _ => rfl⟩

theorem State.PoolLaw.works {y : Tuner} (k : s.PoolLaw) (hy : s.tp.tuners[u].Works s.tp.ifKHz y)
    (hou : t.ou = s.ou) (htp : t.tp = (s.setTuner u y).tp) (hcm : t.cm.committed = s.cm.committed)
    (hphase : t.phase = s.phase) : t.PoolLaw := by
  obtain ⟨hmanned, hidle, hbusy, hapart, hmodes, hlawful, hwaits, hloading⟩ := k
  have htuner (w : TunerId) : t.tp.tuners[w] = if w = u then y else s.tp.tuners[w] := by
    rw [htp]
    split_ifs with hw
    · subst hw
      exact State.setTuner_same w y s
    · exact State.setTuner_other hw y s
  have hif : t.tp.ifKHz = s.tp.ifKHz := by rw [htp]; rfl
  have hstate (w : TunerId) : t.tp.tuners[w].state = .idle ↔ s.tp.tuners[w].state = .idle := by
    rw [htuner]
    split_ifs with hw
    · subst hw
      exact iff_of_false hy.after hy.before
    · rfl
  have hcarrier (w : TunerId) : t.tp.tuners[w].carrier = s.tp.tuners[w].carrier := by
    rw [htuner]
    split_ifs with hw
    · subst hw
      exact hy.carrier
    · rfl
  refine ⟨fun w => ?_, fun w hw => ?_, fun w hw => ?_, fun v w hne hv hw => ?_, ?_, fun o => ?_, fun o ho w => ?_, ?_⟩
  · rw [hstate, hmanned, State.attachedTo, State.attachedTo, hou]
  · have hno := (hstate w).1 hw
    have hne : w ≠ u := by
      rintro rfl
      exact hy.before hno
    rw [htuner, if_neg hne]
    exact hidle w hno
  · obtain ⟨hsome, hn0⟩ := hbusy w (mt (hstate w).2 hw)
    refine ⟨by rw [hcarrier]; exact hsome, ?_⟩
    rw [htuner, hif]
    split_ifs with hwu
    · subst hwu
      exact hy.n0 hn0
    · exact hn0
  · rw [hcarrier, hcarrier]
    exact hapart v w hne (mt (hstate v).2 hv) (mt (hstate w).2 hw)
  · rw [hou]
    exact hmodes
  · have hsame := hlawful o
    unfold State.attachmentLawful at hsame ⊢
    simp only [hou, hcm, hcarrier]
    exact hsame
  · rw [hou] at ho
    obtain ⟨hw, hc⟩ := hwaits o ho w
    refine ⟨mt (hstate w).1 hw, ?_⟩
    rw [hcarrier, State.needs, State.entryOf, hou, hcm]
    exact hc
  · rw [hphase, hou]
    exact hloading

/-! ### Every command -/

/-- An allocation that serves is one of the three cases of R33. -/
theorem State.Sound.picks (h : s.Sound) (hserved : s.allocate o e.carrier e.slot = some x) :
    ∃ u record, s.Picks o e u record x := by
  have found {u : TunerId} {record : TunerId → Tuner} (hpick : ∃ y, s.Picks o e u record y) :
      ∃ u record, s.Picks o e u record x := by
    obtain ⟨y, hpick⟩ := hpick
    obtain rfl : x = y := Option.some.inj (hserved.symm.trans hpick.allocates)
    exact ⟨u, record, hpick⟩
  by_cases hheld : ∃ u : TunerId, s.tp.tuners[u].state ≠ .idle ∧ s.tp.tuners[u].carrier = some e.carrier
  · obtain ⟨u, hu, hc⟩ := hheld
    exact found (h.joins hu hc (h.choose_held hu hc))
  have hunmet : s.Unmet e.carrier := fun u hu hc => hheld ⟨u, hu, hc⟩
  by_cases hown : ∃ u, s.attachedTo u = [o]
  · obtain ⟨u, hu⟩ := hown
    exact found (h.starts (State.vacant_of_attachedTo hu) hunmet
      (fun w hw halone => hw (State.attachedTo_unique halone hu)) (.inl (State.choose_own hunmet hu)))
  have hshared (u : TunerId) : s.attachedTo u ≠ [o] := fun hu => hown ⟨u, hu⟩
  cases hidle : s.idleTuner with
  | some u =>
    obtain ⟨hu, hlowest⟩ := State.idleTuner_eq_some hidle
    exact found (h.starts ((h.detached_seated (e := e)).vacant hu) hunmet (fun w _ => hshared w)
      (.inr (State.choose_idle hunmet hshared hu hlowest)))
  | none =>
    unfold State.allocate at hserved
    rw [State.choose_none hunmet hshared (State.idleTuner_eq_none.1 hidle)] at hserved
    cases hserved

theorem Serving.poolLaw {st : Status} (h : Serving c s x st) (running : s.phase = .running) (k : s.PoolLaw)
    (hmap : s.cm.committed.Law) : x.PoolLaw := by
  have hsound := State.poolLaw_iff.1 k
  have hfinish {y : State} {os : List OutputId} (hy : y.PoolLaw) : (State.finish s os y).PoolLaw :=
    hy.congr (by simp) (by simp) (by simp) (by simp)
  cases h with
  | wake _ asleep =>
    have hasleep := hsound.asleep (State.modes_of_asleep asleep)
    refine hfinish ((State.wakeAll_waking (fun o => ⟨hasleep.modes o, hasleep.atts o⟩) hasleep.tuners).poolLaw ?_)
    rw [s.wakeAll_rewires.rest]
    exact running
  | standby => exact hfinish s.sleepAll_asleep.poolLaw
  | select _ _ o ch e y _ awake mem resolves served =>
    obtain ⟨u, record, hpick⟩ := hsound.picks served
    obtain ⟨p, hp⟩ := s.awake_iff.1 awake
    refine hfinish (hpick.poolLaw hsound ((hsound.modes o p).trans hp) ?_ running)
    rw [← resolves]
    exact hmap.resolve_eq mem
  | tunerSetup _ v low high asleep =>
    have hasleep := hsound.asleep (State.modes_of_asleep asleep)
    rw [(State.setIf_frame v s).1]
    refine State.Asleep.poolLaw ?_
    exact hasleep.of_eq rfl rfl
  | profileSet _ y p v _ passed =>
    obtain ⟨hphase, -, -, -, hcm, htp, hou, -⟩ := passed.repinned.frame
    exact k.of_same (by simp [State.setProfile, hou, htp, hcm, hphase])
  | bind _ y o p _ passed =>
    obtain ⟨hphase, -, -, -, hcm, htp, hou, -⟩ := passed.repinned.frame
    refine k.of_same ?_
    unfold State.bindOutput
    split_ifs <;> simp [hou, htp, hcm, hphase]
  | buyRefused _ y _ passed =>
    obtain ⟨hphase, -, -, -, hcm, htp, hou, -⟩ := passed.repinned.frame
    exact k.of_same (by simp [hou, htp, hcm, hphase])
  | buy _ y service n e passed =>
    obtain ⟨hphase, -, -, -, hcm, htp, hou, -⟩ := passed.repinned.frame
    refine k.of_same ?_
    rw [State.acceptBuy_eq]
    dsimp only
    split_ifs <;> simp [State.bought, hou, htp, hcm, hphase]
  | _ => exact k.of_same (by simp [State.acceptPin, State.clearPin, State.endPasses, State.masterClear])

theorem Taking.poolLaw (h : Taking c s x) (running : s.phase = .running) (k : s.PoolLaw) : x.PoolLaw := by
  cases h with
  | map _ g =>
    obtain ⟨-, heq⟩ | ⟨-, -, heq⟩ | ⟨-, -, heq⟩ := s.takeSegment_cases g <;> rw [heq]
    · exact k
    · exact ((State.poolLaw_iff.1 k).commitMap_facts _ running).2.2.1
    · exact k.congr rfl rfl rfl id
  | _ => exact k.of_same (by simp)

theorem Does.keeps_poolLaw (h : Does c s t) (k : s.PoolLaw) (hmap : s.MapLaw) : t.PoolLaw := by
  have hfresh (h : s.Fresh t) : t.PoolLaw := h.asleep.poolLaw
  cases h with
  | powerOn => exact hfresh (s.resetAll_isFresh _ _)
  | powerLoss => exact hfresh s.losePower_isFresh
  | releaseReset => exact hfresh (s.resetAll_isFresh _ _)
  | restart _ r rest => exact hfresh (State.restart_isFresh r rest s)
  | assertReset =>
    exact k.congr (by rw [s.assertReset_rest.rest]) (by rw [s.assertReset_rest.rest])
      (by rw [s.assertReset_rest.rest]) (by rw [s.assertReset_rest.rest]; nofun)
  | loadEnd _ loading =>
    have hsound := State.poolLaw_iff.1 k
    refine ((hsound.asleep (hsound.loading loading)).of_eq (by simp) ?_).poolLaw
    have htp : s.endLoad.tp = s.takeRecords.tp := by simp
    rw [htp]
    rfl
  | serves _ _ y r rest _ _ _ h _ does =>
    have hqueued : ({ s with cl := { s.cl with queue := rest } } : State).PoolLaw := k
    exact (does.poolLaw h.1 hqueued hmap.1).congr rfl rfl rfl id
  | takes _ _ _ _ h does =>
    have htaken : s.packetGone.PoolLaw := k
    exact does.poolLaw h.1 htaken
  | edgeOpen => rw [State.edge_frame]; exact k
  | tunerMoves _ _ u y _ _ moves => exact k.works (u := u) (moves.works _) (by simp) (by simp) (by simp) (by simp)
  | tunerFaults _ _ u y _ _ faults => exact k.works (u := u) (faults.works _) (by simp) (by simp) (by simp) (by simp)
  | tunerLoads _ _ u y _ _ loads =>
    have hou : (s.loadDivisor u y).ou = s.ou := by
      unfold State.loadDivisor
      dsimp only
      split <;> rfl
    exact k.works (u := u) loads.works (by simp [hou]) (by rw [← State.loadDivisor_tp]; simp)
      (by simp) (by simp)
  | _ => exact k.of_same (by simp [State.portFault])

/-- Settles O6, by what each command makes of outputs and tuners. -/
theorem stepsKeepThePoolSound : Obligations.StepsKeepThePoolSound := by
  intro s t hs hmap h
  obtain ⟨hkept, -⟩ := step_keeps (P := fun s => s.PoolLaw ∧ s.MapLaw) (fun _ _ k => k)
    (fun _ _ _ h k => ⟨h.keeps_poolLaw k.1 k.2, h.keeps_mapLaw k.2⟩) ⟨hs, hmap⟩ h
  exact hkept

end

end Sys2Proof.Machine
